-- ==== Sys2Proof/Word.lean ====
section
/-! DEFINITION. The two word types of the block: a wire byte and a 32-bit host register (spec rules R5, R7). -/

namespace Sys2Proof

/-- A byte: one element of every wire format and one operand field of a command word (R7, R36, R57). -/
abbrev Byte := BitVec 8

/-- A 32-bit value: every host-visible register, every command word and every time value (R5). -/
abbrev Word := BitVec 32

end Sys2Proof
end

