-- ==== Sys2Proof/Config.lean ====
section
/-! DEFINITION. What an implementation of the block fixes: the protocol constants of R4, the construction
parameters of R3 and R6, and the two values the spec leaves free (93_implementation_defined.md I-3 and I-11). -/

namespace Sys2Proof

/-- The transport the block is built for (R3, R32). -/
inductive Mode
  /-- Byte-stream serial link with framed, escaped protocol. -/
  | serial
  /-- Bus-addressed transport with fixed-size transactions and per-word checksums. -/
  | bus
  deriving DecidableEq, Repr

/-- The construction parameters of R6. They are arguments of the model, not registers: `State.cfg` carries one
value of this type because a step takes nothing but a state, and no step changes it (R32). -/
structure Params where
  /-- `MODE` (R3). -/
  mode : Mode
  /-- `BASE_ADDR`: where the register block sits in the host's address space (D4). -/
  baseAddr : Nat
  /-- `T_SETTLE_OFF`: the wait after the power-off command of a recovery (D15). -/
  tSettleOff : Word
  /-- `T_SETTLE_ON`: the wait after the power-on command of a recovery (D15). -/
  tSettleOn : Word
  /-- `T_SETTLE_CLEAN`: the wait after the clean command of a recovery (D15). -/
  tSettleClean : Word
  /-- `SERIAL_START_DATA`: the DATA bytes of the serial start-measurement frame (D23). -/
  serialStartData : List Byte
  /-- `BUS_START_DATA`: the data word written with the bus start pointer, if any (D25). -/
  busStartData : Option (Byte × Byte)
  /-- `BUS_ADDR_DATA`: the pointer of the 60-byte data read (D26). -/
  busAddrData : BitVec 16
  /-- `BUS_DEV_ADDR`: the sensor's address on the shared bus (D27). -/
  busDevAddr : Nat
  deriving DecidableEq, Repr

namespace Config

/-- `CRC_INIT` (R4). -/
def crcInit : Byte := 0xFF
/-- `CRC_POLY` (R4). -/
def crcPoly : Byte := 0x31
/-- `START` (R4). -/
def startMark : Byte := 0x7E
/-- `END` (R4). -/
def endMark : Byte := 0x7E
/-- `ESC` (R4). -/
def escMark : Byte := 0x7D
/-- `SER_ADDR` (R4). -/
def serAddr : Byte := 0x00
/-- `MIN_FRAME` (R4). Like the other constants it has the value R4 states (DESIGN CHOICE, log entry 12). -/
def minFrame : Nat := 47
/-- `DISCARD_MAX` (R4). -/
def discardMax : Nat := 60
/-- `HDR_LEN` (R4). -/
def hdrLen : Nat := 5
/-- `PAYLOAD_LEN` (R4). -/
def payloadLen : Nat := 40
/-- `READY_LEN` (R4). -/
def readyLen : Nat := 3
/-- `DATA_LEN` (R4). -/
def dataLen : Nat := 60
/-- `DEGRADE_LIMIT` (R4). -/
def degradeLimit : Nat := 5
/-- `THRESHOLD_DEFAULT` (R4): 1,200,000 = 0x0012_4F80. -/
def thresholdDefault : Word := 1200000
/-- `GOOD_CNT_INIT` (R4). -/
def goodCntInit : Word := 1

/-- FREE VALUE (93_implementation_defined.md I-3, log entry 2): what a host reads at `RECORD[i]` while
`STATUS.REC_VALID = 0`. The first argument numbers the resets, the second is i, so that the draw is fixed at reset.
It has no body: nothing can be proved of its value. -/
opaque recordDraw : Nat → Nat → Word

/-- FREE VALUE (93_implementation_defined.md I-11, log entry 3): the answer of the n-th `BusRead` for which the
state lists no answer of the peer: its length and its bytes are the peer's (R42). It has no body. -/
opaque busAnswer : Nat → List Byte

/-- The parameters `State.reset` is built with. The values R6 gives a default have it; `MODE`, `BASE_ADDR`, the
three settle times, `BUS_START_DATA` and `BUS_DEV_ADDR` are OPEN in the spec, and the values here are a DESIGN
CHOICE (log entry 1). Every statement about the block quantifies over all parameters instead. -/
def defaultParams : Params where
  mode := .serial
  baseAddr := 0
  tSettleOff := 0
  tSettleOn := 0
  tSettleClean := 0
  serialStartData := [0x02, 0x01]
  busStartData := none
  busAddrData := 0x0202
  busDevAddr := 0

end Config

end Sys2Proof
end

