-- ==== Sys2Proof/Syntax.lean ====
section
/-! DEFINITION. The command set: one constructor per row of spec/opcode_table.json (R59). Operands are bytes of the
command word taken as they stand (R164), so every term is one legal command. -/

namespace Sys2Proof

/-- The twelve commands a host can write to `CMD` (R59). -/
inductive Instr
  /-- `CRC8 a, b` (R74). -/
  | crc8 (a b : Byte)
  /-- `CRCCHK a, b, c` (R75). -/
  | crcchk (a b c : Byte)
  /-- `SUMCLR` (R77). -/
  | sumclr
  /-- `SUMADD c` (R78). -/
  | sumadd (c : Byte)
  /-- `STUFF c` (R83). -/
  | stuff (c : Byte)
  /-- `UNESC c` (R84). -/
  | unesc (c : Byte)
  /-- `PWRON` (R86). -/
  | pwron
  /-- `PWROFF` (R87). -/
  | pwroff
  /-- `CLEAN` (R88). -/
  | clean
  /-- `REQDATA` (R89). -/
  | reqdata
  /-- `READ` (R113). -/
  | read
  /-- `INIT` (R121). -/
  | init
  deriving DecidableEq, Repr

end Sys2Proof
end

