-- ==== Sys2Proof/WellFormed.lean ====
section
/-! DEFINITION. The checks of the spec on what reaches the block from outside: the four fields of a command word
(R57 to R60) and the construction parameters (R6, R63). An `Instr` itself has byte operands and needs no check: every
term of the type is legal (R61). -/

namespace Sys2Proof

/-- The four byte fields of a command word (R57). -/
structure Fields where
  /-- `OPC`, bits 31:24. -/
  opc : Byte
  /-- `A`, bits 23:16. -/
  a : Byte
  /-- `B`, bits 15:8. -/
  b : Byte
  /-- `C`, bits 7:0. -/
  c : Byte
  deriving DecidableEq, Repr

/-- One row of the opcode map (R59): an assigned opcode and which fields it marks "must be 0". -/
structure OpcodeRow where
  opc : Byte
  zeroA : Bool
  zeroB : Bool
  zeroC : Bool
  deriving DecidableEq, Repr

/-- The opcode map of R59, row by row. -/
def opcodeRows : List OpcodeRow :=
  [⟨0x01, false, false, true⟩,    -- CRC8
   ⟨0x02, false, false, false⟩,   -- CRCCHK
   ⟨0x03, true, true, true⟩,      -- SUMCLR
   ⟨0x04, true, true, false⟩,     -- SUMADD
   ⟨0x05, true, true, false⟩,     -- STUFF
   ⟨0x06, true, true, false⟩,     -- UNESC
   ⟨0x10, true, true, true⟩,      -- PWRON
   ⟨0x11, true, true, true⟩,      -- PWROFF
   ⟨0x12, true, true, true⟩,      -- CLEAN
   ⟨0x13, true, true, true⟩,      -- REQDATA
   ⟨0x20, true, true, true⟩,      -- READ
   ⟨0x30, true, true, true⟩]      -- INIT

/-- Whether the fields fit one row: its opcode, and zero in every field it marks "must be 0" (R58). -/
def OpcodeRow.admits (r : OpcodeRow) (f : Fields) : Bool :=
  f.opc == r.opc && (!r.zeroA || f.a == 0) && (!r.zeroB || f.b == 0) && (!r.zeroC || f.c == 0)

/-- Whether a command word with these fields is legal (R59, R60). -/
def Fields.wf (f : Fields) : Bool :=
  opcodeRows.any fun r => r.admits f

/-- Whether the parameters can be built: the LEN byte of the start-measurement frame must hold the number of its
data bytes (R63), so there are at most 255 of them (DESIGN CHOICE, log entry 9). -/
def Params.wf (p : Params) : Bool :=
  p.serialStartData.length ≤ 255

end Sys2Proof
end

