-- ==== Sys2Proof/Decode.lean ====
section
/-! DEFINITION. The command decoder of R58, total on every 32-bit word and refusing by name, and the encoder of R59
and R71. A command is one whole word (R62), so there is no byte order and nothing follows it (R35). -/

namespace Sys2Proof

/-- Why a command word is illegal (R60). The block does not record which (R135): each sets `STATUS.ILLEGAL`. -/
inductive DecodeError
  /-- `OPC` is not in the table of R59. -/
  | unassignedOpcode
  /-- `OPC` is assigned, but a field its row marks "must be 0" is not zero. -/
  | fieldNotZero
  deriving DecidableEq, Repr

/-- The fields of a command word (R57): `opc = w[31:24]`, `a = w[23:16]`, `b = w[15:8]`, `c = w[7:0]`. -/
def fieldsOf (w : Word) : Fields :=
  ⟨w.extractLsb' 24 8, w.extractLsb' 16 8, w.extractLsb' 8 8, w.extractLsb' 0 8⟩

/-- The command word `OPC : A : B : C` (R57, R71). -/
def wordOf (f : Fields) : Word :=
  f.opc ++ f.a ++ f.b ++ f.c

/-- The command `i` if the fields `zs`, which its row marks "must be 0", are all zero (R58). -/
def requireZero (zs : List Byte) (i : Instr) : Except DecodeError Instr :=
  if zs.all (· == 0) then .ok i else .error .fieldNotZero

/-- The opcode map of R59, read from the fields of a word. -/
def decodeFields (f : Fields) : Except DecodeError Instr :=
  if f.opc = 0x01 then requireZero [f.c] (.crc8 f.a f.b)
  else if f.opc = 0x02 then requireZero [] (.crcchk f.a f.b f.c)
  else if f.opc = 0x03 then requireZero [f.a, f.b, f.c] .sumclr
  else if f.opc = 0x04 then requireZero [f.a, f.b] (.sumadd f.c)
  else if f.opc = 0x05 then requireZero [f.a, f.b] (.stuff f.c)
  else if f.opc = 0x06 then requireZero [f.a, f.b] (.unesc f.c)
  else if f.opc = 0x10 then requireZero [f.a, f.b, f.c] .pwron
  else if f.opc = 0x11 then requireZero [f.a, f.b, f.c] .pwroff
  else if f.opc = 0x12 then requireZero [f.a, f.b, f.c] .clean
  else if f.opc = 0x13 then requireZero [f.a, f.b, f.c] .reqdata
  else if f.opc = 0x20 then requireZero [f.a, f.b, f.c] .read
  else if f.opc = 0x30 then requireZero [f.a, f.b, f.c] .init
  else .error .unassignedOpcode

/-- Decoding of a command word (R58). No other bit of state takes part. -/
def decode (w : Word) : Except DecodeError Instr :=
  decodeFields (fieldsOf w)

/-- The fields of a command's word, from the tables of R59 and R71. -/
def instrFields : Instr → Fields
  | .crc8 a b => ⟨0x01, a, b, 0⟩
  | .crcchk a b c => ⟨0x02, a, b, c⟩
  | .sumclr => ⟨0x03, 0, 0, 0⟩
  | .sumadd c => ⟨0x04, 0, 0, c⟩
  | .stuff c => ⟨0x05, 0, 0, c⟩
  | .unesc c => ⟨0x06, 0, 0, c⟩
  | .pwron => ⟨0x10, 0, 0, 0⟩
  | .pwroff => ⟨0x11, 0, 0, 0⟩
  | .clean => ⟨0x12, 0, 0, 0⟩
  | .reqdata => ⟨0x13, 0, 0, 0⟩
  | .read => ⟨0x20, 0, 0, 0⟩
  | .init => ⟨0x30, 0, 0, 0⟩

/-- The word a host writes to `CMD` for a command (R71). -/
def encode (i : Instr) : Word :=
  wordOf (instrFields i)

/-- The word a host writes, as spec/opcode_table.json numbers its bits: the low `nbits` of `w`, zero above. -/
def tableWord (nbits w : Nat) : Word :=
  BitVec.ofNat 32 (w % 2 ^ nbits)

/-- What the decoder reads from an opcode-table word (`none` where the word is illegal). -/
def decodeTableWord (nbits w : Nat) : Option Instr :=
  (decode (tableWord nbits w)).toOption

end Sys2Proof
end

