-- ==== Sys2Proof/Machine/State.lean ====
section
/-! DEFINITION. The state of the block and of the environment it is connected to, as plain data; the two kinds of
stop; and the machine right after reset (10_state.md, 20_memory.md, 70_reset_and_hazards.md R150). -/

namespace Sys2Proof.Machine

/-- `HEALTH.LINK_STATE` (R19). Code 3 is never produced, and no constructor stands for it. -/
inductive LinkState
  | initializing
  | healthy
  | degraded
  deriving DecidableEq, Repr

/-- The eight failure kinds a READ can end with (R124 to R132). -/
inductive FailKind
  | noDataAvailable
  | resynchronizing
  | incompleteFrame
  | sensorFault
  | checksumMismatch
  | framingError
  | transactionSizeMismatch
  | notReady
  deriving DecidableEq, Repr

/-- What `STATUS.LAST_RESULT` holds (R133). Codes 0x9 to 0xE are never produced, and no constructor stands for them. -/
inductive LastResult
  /-- 0xF: no READ has completed since reset. -/
  | noneYet
  /-- 0x0. -/
  | success
  /-- 0x1 to 0x8. -/
  | failed (k : FailKind)
  deriving DecidableEq, Repr

/-- The four fixed commands the block sends to the sensor (R64, R68). -/
inductive SensorCmd
  | start
  | stop
  | clean
  | readData
  deriving DecidableEq, Repr

/-- The values of the sequencer phase (R33). -/
inductive Phase
  | idle
  | decode
  | discard
  | recoverOff
  | waitOff
  | recoverOn
  | waitOn
  | recoverClean
  | waitClean
  | commit
  deriving DecidableEq, Repr

/-- How far the decode of a READ has come (R90, R101), with the internal state of R27 that the next operation needs:
the de-stuffed payload bytes collected so far and the running checksum sum. -/
inductive DecodeStep
  /-- Serial steps 1 to 3 of R90: about to sample `RxAvail` and look at the head of the queue. -/
  | look
  /-- Serial step 4: popping the 5-byte header; `h` is what has been popped. -/
  | header (h : List Byte)
  /-- Serial step 5: about to pop the next payload byte. -/
  | payload (p : List Byte) (sum : Byte)
  /-- Serial step 5: an escape marker has been popped, its second byte not yet. -/
  | escape (p : List Byte) (sum : Byte)
  /-- Serial step 7: about to pop the checksum byte. -/
  | chk (p : List Byte) (sum : Byte)
  /-- Serial step 7: about to pop the END byte; `c` is the checksum byte read from the wire. -/
  | trailer (p : List Byte) (sum : Byte) (c : Byte)
  /-- Bus: about to make the readiness transaction (R101). -/
  | ready
  /-- Bus: about to make the data transaction (R101). -/
  | data
  deriving DecidableEq, Repr

/-- The three stages of a recovery (R118). -/
inductive Stage
  | off
  | on
  | clean
  deriving DecidableEq, Repr

/-- The outcome a READ carries to its commit, with the time samples its register writes need (R113). -/
inductive ReadEnd
  /-- A successful decode: the 40 payload bytes and `t1`, the time the decode ended. -/
  | ok (p : List Byte) (t1 : Word)
  /-- A failed decode; `t2` is the completion time of the recovery, if one ran. -/
  | fail (k : FailKind) (t2 : Option Word)
  deriving DecidableEq, Repr

/-- The sequencer (R33) with the internal state of the READ in progress (R27). -/
inductive Engine
  | idle
  | decode (d : DecodeStep)
  /-- About to discard (R96); `k` is the failure that made it. -/
  | discard (k : FailKind)
  /-- About to send the command of recovery stage `g` (R118). -/
  | recover (g : Stage) (k : FailKind)
  /-- In the settle wait of stage `g`, which began at `t0` (R43). -/
  | wait (g : Stage) (k : FailKind) (t0 : Word)
  /-- About to commit (R119). -/
  | commit (r : ReadEnd)
  deriving DecidableEq, Repr

/-- One transaction on the bus (R42). -/
inductive BusTx
  /-- A write to device `dev` with these wire bytes. -/
  | write (dev : Nat) (wire : List Byte)
  /-- A read of `n` bytes at pointer `ptr` of device `dev`, and what the peer answered. -/
  | read (dev : Nat) (ptr : BitVec 16) (n : Nat) (answer : List Byte)
  deriving DecidableEq, Repr

/-- One host access: a read or a write of `size` bytes at a host address (R9, R44). -/
inductive Access
  | read (addr size : Nat)
  | write (addr size : Nat) (v : Word)
  deriving DecidableEq, Repr

/-- One operation of the host program: an access, or the loop `POLL` (R72). -/
inductive HostOp
  | access (a : Access)
  | poll
  deriving DecidableEq, Repr

/-- A turn of one agent of R12. A list of turns is an interleaving of the agents. -/
inductive Turn
  /-- The host issues its next operation. -/
  | host
  /-- The engine takes one step. -/
  | engine
  /-- The peer appends bytes to the serial receive queue (R40). -/
  | peer (bytes : List Byte)
  /-- The peer settles its answer to a later bus read (R42). -/
  | answer (bytes : List Byte)
  /-- The clock advances by `d` time units (R31). -/
  | tick (d : Word)
  /-- The reset input is asserted and released (R150, R151). -/
  | reset
  deriving DecidableEq, Repr

/-- The state: the construction parameters, the block's registers and sequencer, its ports, and the environment. -/
structure State where
  /-- The construction parameters (R6, R32); no step changes them. -/
  cfg : Params
  /-- `STATUS.ILLEGAL` (R17, R135). -/
  illegal : Bool
  /-- `STATUS.OVERRUN` (R17, R136). -/
  overrun : Bool
  /-- `STATUS.REC_VALID` (R17). -/
  recValid : Bool
  /-- `STATUS.LAST_RESULT` (R17, R133). -/
  lastResult : LastResult
  /-- `STATUS.RECOVERED` (R17). -/
  recovered : Bool
  /-- `RESULT` (R15). -/
  result : Word
  /-- `SUMACC.ACC` (R16). -/
  acc : Byte
  /-- `THRESHOLD` (R18). -/
  threshold : Word
  /-- `HEALTH.LINK_STATE` (R19). -/
  linkState : LinkState
  /-- `HEALTH.IS_HEALTHY` (R19). -/
  isHealthy : Bool
  /-- `BAD_CNT` (R21). -/
  badCnt : Word
  /-- `GOOD_CNT` (R22). -/
  goodCnt : Word
  /-- `LAST_GOOD_TS` (R23). -/
  lastGoodTs : Word
  /-- `RECORD[0..9]` (R24). -/
  record : Vector Word 10
  /-- `phase` and the READ's internal state (R27, R33). -/
  engine : Engine
  /-- The serial receive queue, head first; the transport's (R29, R40). Both modes have it (log entry 13). -/
  rx : List Byte
  /-- The serial transmit stream, first byte sent first (R41). -/
  tx : List Byte
  /-- The bus transactions made so far, oldest first (R42). -/
  busLog : List BusTx
  /-- The answers the peer has settled for the coming bus reads, next first (R42). -/
  busAnswers : List (List Byte)
  /-- The clock input `now` (R31). -/
  now : Word
  /-- The MODEL's own: how many bus answers were drawn free (log entry 3). -/
  draws : Nat
  /-- The MODEL's own: how many resets there were, which numbers the free draws of `RECORD` (log entry 2). -/
  resets : Nat
  /-- The host's remaining operations, next first (R12, R51). -/
  program : List HostOp
  /-- What the host's reads returned, oldest first, each with its offset (R46, R71). -/
  hostReads : List (Nat × Word)
  /-- The agents' coming turns, next first; when none is listed the step picks one (log entry 4). -/
  sched : List Turn
  deriving DecidableEq, Repr

/-- Why a run stops with a fault: the bus-error response of R134 to a host access that the block does not perform.
Each is the spec's own fault of the run, so stopping there is safe. -/
inductive Fault
  /-- `HostFault(MISALIGNED_OR_NARROW)`: raised by a host access that is not an aligned 32-bit one (R44). Safe. -/
  | misalignedOrNarrow
  /-- `HostFault(UNMAPPED_OR_READONLY)`: raised by a host access to a reserved offset, or a write to a read-only
  register (R45). Safe. -/
  | unmappedOrReadonly
  deriving DecidableEq, Repr

/-- Why a step refuses. -/
inductive Refusal
  /-- A command with no meaning yet, raised by its arm of `exec`. No arm raises it. Safe. -/
  | notModelled (mnemonic : String)
  deriving DecidableEq, Repr

/-- The block built with the parameters `p`, right after its reset input was released at clock time `t` (R150), with
nothing received, sent or read and no host operation pending. The storage of `RECORD` is zero, which no host read
shows while `REC_VALID = 0` (log entry 2); the empty environment is a DESIGN CHOICE (log entry 10). -/
def State.resetAt (p : Params) (t : Word) : State where
  cfg := p
  illegal := false
  overrun := false
  recValid := false
  lastResult := .noneYet
  recovered := false
  result := 0
  acc := 0
  threshold := Config.thresholdDefault
  linkState := .initializing
  isHealthy := false
  badCnt := 0
  goodCnt := Config.goodCntInit
  lastGoodTs := t
  record := Vector.replicate 10 0
  engine := .idle
  rx := []
  tx := []
  busLog := []
  busAnswers := []
  now := t
  draws := 0
  resets := 0
  program := []
  hostReads := []
  sched := []

/-- The machine right after reset, for the interface of Host/Core.lean: built with `Config.defaultParams`, its reset
released at clock time 0 (log entry 1). -/
def State.reset : State :=
  State.resetAt Config.defaultParams 0

end Sys2Proof.Machine
end

