-- ==== Sys2Proof/Machine/Operands.lean ====
section
/-! DEFINITION. How bytes become operands and registers and back: byte order of pointers and record fields (R37 to
R39), zero extension (R7), and the saturating narrowing of the counters (R5). -/

namespace Sys2Proof.Machine

/-- `zext_32` of a byte (R7). -/
def zextByte (b : Byte) : Word :=
  b.setWidth 32

/-- Four bytes, most significant first, as a 32-bit field (R37, R38). -/
def beWord (b0 b1 b2 b3 : Byte) : Word :=
  b0 ++ b1 ++ b2 ++ b3

/-- The wire bytes of a 16-bit bus pointer, most significant first (R39). -/
def ptrBytes (ptr : BitVec 16) : List Byte :=
  [ptr.extractLsb' 8 8, ptr.extractLsb' 0 8]

/-- Byte `i` of a list (0 past its end, where no rule looks). -/
def byteAt (l : List Byte) (i : Nat) : Byte :=
  l.getD i 0

/-- Field `i` of a 40-byte payload: bytes 4i to 4i+3, most significant first (R24, R38). -/
def fieldOf (p : List Byte) (i : Nat) : Word :=
  beWord (byteAt p (4 * i)) (byteAt p (4 * i + 1)) (byteAt p (4 * i + 2)) (byteAt p (4 * i + 3))

/-- The measurement record of a 40-byte payload (R24, R38). -/
def recordOf (p : List Byte) : Vector Word 10 :=
  #v[fieldOf p 0, fieldOf p 1, fieldOf p 2, fieldOf p 3, fieldOf p 4,
     fieldOf p 5, fieldOf p 6, fieldOf p 7, fieldOf p 8, fieldOf p 9]

/-- `sat32(n) = min(n, 0xFFFF_FFFF)` (R7). -/
def sat32 (n : Nat) : Word :=
  BitVec.ofNat 32 (min n 0xFFFFFFFF)

/-- `(t - t0) mod 2^32`, the elapsed time between two clock samples (R5, R43, R117). -/
def elapsed (t t0 : Word) : Word :=
  t - t0

end Sys2Proof.Machine
end

