-- ==== Sys2Proof/Machine/Flags.lean ====
section
/-! DEFINITION. The status fields of the block: the outcome codes (R133), the sequencer phase behind `BUSY` (R33),
and the words `STATUS`, `HEALTH` and `SUMACC` as a host reads them (R16, R17, R19). -/

namespace Sys2Proof.Machine

/-- `code(kind)` of R133. -/
def failCode : FailKind → BitVec 4
  | .noDataAvailable => 0x1
  | .resynchronizing => 0x2
  | .incompleteFrame => 0x3
  | .sensorFault => 0x4
  | .checksumMismatch => 0x5
  | .framingError => 0x6
  | .transactionSizeMismatch => 0x7
  | .notReady => 0x8

/-- The outcome codes of `STATUS.LAST_RESULT` (R133). -/
def resultCode : LastResult → BitVec 4
  | .noneYet => 0xF
  | .success => 0x0
  | .failed k => failCode k

/-- The encoding of `HEALTH.LINK_STATE` (R19). -/
def linkCode : LinkState → BitVec 2
  | .initializing => 0
  | .healthy => 1
  | .degraded => 2

/-- The phase the sequencer is in (R33, R114). -/
def phaseOf : Engine → Phase
  | .idle => .idle
  | .decode _ => .decode
  | .discard _ => .discard
  | .recover .off _ => .recoverOff
  | .wait .off _ _ => .waitOff
  | .recover .on _ => .recoverOn
  | .wait .on _ _ => .waitOn
  | .recover .clean _ => .recoverClean
  | .wait .clean _ _ => .waitClean
  | .commit _ => .commit

/-- `STATUS.BUSY`: 1 exactly when the phase is not `IDLE` (R33). -/
def State.busy (s : State) : Bool :=
  phaseOf s.engine != .idle

/-- The word a host reads at `STATUS` (R17). -/
def statusWord (s : State) : Word :=
  (0 : BitVec 19) ++ BitVec.ofBool s.recovered ++ resultCode s.lastResult ++ (0 : BitVec 4)
    ++ BitVec.ofBool s.recValid ++ BitVec.ofBool s.overrun ++ BitVec.ofBool s.illegal ++ BitVec.ofBool s.busy

/-- The word a host reads at `HEALTH` (R19). -/
def healthWord (s : State) : Word :=
  (0 : BitVec 29) ++ linkCode s.linkState ++ BitVec.ofBool s.isHealthy

/-- The word a host reads at `SUMACC`: `FCS = ~ACC` above `ACC` (R16). -/
def sumaccWord (s : State) : Word :=
  (0 : BitVec 16) ++ ~~~s.acc ++ s.acc

end Sys2Proof.Machine
end

