-- ==== Sys2Proof/Machine/Ops.lean ====
section
/-! DEFINITION. The named operations over registers and ports that every meaning is written with: register updates,
the port primitives of R40 to R43, the two sticky events that stand where a processor has exceptions (R135, R136;
there is no trap entry and no return, R140, R141), and reset (R150, R151). -/

namespace Sys2Proof.Machine

/-! ### Register updates -/

/-- `RESULT <- v`, all 32 bits (R15). -/
def State.setResult (s : State) (v : Word) : State :=
  { s with result := v }

/-- `SUMACC.ACC <- v` (R16). -/
def State.setAcc (s : State) (v : Byte) : State :=
  { s with acc := v }

/-- `THRESHOLD <- v` (R18). -/
def State.setThreshold (s : State) (v : Word) : State :=
  { s with threshold := v }

/-- `phase <- P`, with the READ's internal state (R33). -/
def State.setEngine (s : State) (e : Engine) : State :=
  { s with engine := e }

/-- The event `ILLEGAL`: the sticky bit is set and nothing else changes (R60, R135). -/
def State.raiseIllegal (s : State) : State :=
  { s with illegal := true }

/-- The event `OVERRUN`: the sticky bit is set and nothing else changes (R47, R136). -/
def State.raiseOverrun (s : State) : State :=
  { s with overrun := true }

/-- A host write of `v` to `STATUS`: write 1 to clear bits 1 and 2, every other bit ignored (R17). -/
def State.clearSticky (s : State) (v : Word) : State :=
  { s with
    illegal := s.illegal && !v.getLsbD 1
    overrun := s.overrun && !v.getLsbD 2 }

/-- The value a host read returns goes to the host (R46). -/
def State.logRead (s : State) (off : Nat) (v : Word) : State :=
  { s with hostReads := s.hostReads ++ [(off, v)] }

/-! ### Port primitives -/

/-- `RxAvail()` (R40). -/
def State.rxAvail (s : State) : Nat :=
  s.rx.length

/-- `RxPeek()` (R40): the head of the queue; `none` where the spec leaves it undefined, on an empty queue. -/
def State.rxPeek (s : State) : Option Byte :=
  s.rx.head?

/-- `RxPop()` (R40): the head of the queue and the state without it; `none` while the engine must hold. -/
def State.rxPop (s : State) : Option (Byte × State) :=
  match s.rx with
  | [] => none
  | b :: q => some (b, { s with rx := q })

/-- `RxDiscard(n)` (R40): at most `n` bytes go, as many as are queued now. -/
def State.rxDiscard (s : State) (n : Nat) : State :=
  { s with rx := s.rx.drop n }

/-- The peer appends bytes to the receive queue (R40). -/
def State.rxAppend (s : State) (bytes : List Byte) : State :=
  { s with rx := s.rx ++ bytes }

/-- `TxSend(bytes)` (R41). -/
def State.txSend (s : State) (bytes : List Byte) : State :=
  { s with tx := s.tx ++ bytes }

/-- `BusWrite(ptr, d)` at the sensor's device address (R42). -/
def State.busWrite (s : State) (ptr : BitVec 16) (d : List Byte) : State :=
  { s with busLog := s.busLog ++ [.write s.cfg.busDevAddr (ptrBytes ptr ++ d)] }

/-- The answer the peer gives to the next bus read: the one it has settled, or a free draw (R42, log entry 3). -/
def State.nextAnswer (s : State) : List Byte :=
  match s.busAnswers with
  | r :: _ => r
  | [] => Config.busAnswer s.draws

/-- `BusRead(ptr, n)` (R42): one transaction, never retried; the answer is `s.nextAnswer`. -/
def State.busRead (s : State) (ptr : BitVec 16) (n : Nat) : State :=
  { s with
    busLog := s.busLog ++ [.read s.cfg.busDevAddr ptr n s.nextAnswer]
    busAnswers := s.busAnswers.tail
    draws := if s.busAnswers = [] then s.draws + 1 else s.draws }

/-- The peer settles its answer to one more bus read (R42). -/
def State.addAnswer (s : State) (bytes : List Byte) : State :=
  { s with busAnswers := s.busAnswers ++ [bytes] }

/-- The clock advances; `now` wraps modulo 2^32 (R31). -/
def State.tick (s : State) (d : Word) : State :=
  { s with now := s.now + d }

/-! ### Reset -/

/-- The reset input is asserted and released (R150, R151): the block's registers take their reset values, a READ in
progress is abandoned, and the receive queue, the transmit stream, the bus, the clock and the host are untouched. -/
def State.resetBlock (s : State) : State :=
  { s with
    illegal := false
    overrun := false
    recValid := false
    lastResult := .noneYet
    recovered := false
    result := 0
    acc := 0
    threshold := Config.thresholdDefault
    linkState := .initializing
    isHealthy := false
    badCnt := 0
    goodCnt := Config.goodCntInit
    lastGoodTs := s.now
    record := Vector.replicate 10 0
    engine := .idle
    resets := s.resets + 1 }

end Sys2Proof.Machine
end

