-- ==== Sys2Proof/Machine/Checksum.lean ====
section
/-! DEFINITION. The Checksum Engine (40_checksum.md): the CRC-8 of a 2-byte word, the inverted-sum frame checksum,
and the commands CRC8, CRCCHK, SUMCLR and SUMADD. -/

namespace Sys2Proof.Machine

/-- One of the 8 iterations of R73: shift left in 8 bits, and fold the polynomial in if the top bit was set. -/
def crcShift (acc : Byte) : Byte :=
  if acc.getLsbD 7 then (acc <<< 1) ^^^ Config.crcPoly else acc <<< 1

/-- Folding one byte into the accumulator: XOR, then 8 iterations (R73). -/
def crcByte (acc b : Byte) : Byte :=
  Nat.repeat crcShift 8 (acc ^^^ b)

/-- `crc8(b0, b1)` (R73). -/
def crc8 (b0 b1 : Byte) : Byte :=
  crcByte (crcByte Config.crcInit b0) b1

/-- `(p[0] + ... ) mod 256` (R76). -/
def byteSum (p : List Byte) : Byte :=
  p.foldl (· + ·) 0

/-- `frameChecksum(p)` (R76). -/
def frameChecksum (p : List Byte) : Byte :=
  ~~~byteSum p

/-- CRC8 (R74). -/
def execCrc8 (a b : Byte) (s : State) : Host.Outcome State Fault Refusal :=
  .next (s.setResult (zextByte (crc8 a b)))

/-- CRCCHK (R75). -/
def execCrcchk (a b c : Byte) (s : State) : Host.Outcome State Fault Refusal :=
  .next (s.setResult (if crc8 a b = c then 1 else 0))

/-- SUMCLR (R77). -/
def execSumclr (s : State) : Host.Outcome State Fault Refusal :=
  .next (s.setAcc 0)

/-- SUMADD (R78). -/
def execSumadd (c : Byte) (s : State) : Host.Outcome State Fault Refusal :=
  .next (s.setAcc (s.acc + c))

end Sys2Proof.Machine
end

