-- ==== Sys2Proof/Machine/Serial.lean ====
section
/-! DEFINITION. The Serial Frame Codec (41_serial_codec.md): byte stuffing and the commands STUFF and UNESC, the four
command frames (R63, R64), and the serial decode of R90 as one engine operation at a time. -/

namespace Sys2Proof.Machine

/-- `unesc(y)` (R81); `none` is the malformed pair. -/
def unescByte (y : Byte) : Option Byte :=
  if y = 0x5E then some 0x7E
  else if y = 0x5D then some 0x7D
  else if y = 0x31 then some 0x11
  else if y = 0x33 then some 0x13
  else none

/-- The four reserved bytes (R66). -/
def isReserved (b : Byte) : Bool :=
  b == 0x7E || b == 0x7D || b == 0x11 || b == 0x13

/-- `stuff(b)` (R82). -/
def stuffByte (b : Byte) : List Byte :=
  if isReserved b then [Config.escMark, b ^^^ 0x20] else [b]

/-- `stuffed(p)` (R82). -/
def stuffBytes (p : List Byte) : List Byte :=
  p.flatMap stuffByte

/-- What STUFF writes to `RESULT`: the wire length above the one or two wire bytes (R83). -/
def stuffResult (b : Byte) : Word :=
  match stuffByte b with
  | [w0, w1] => 0x00020000#32 ||| (zextByte w0 <<< 8) ||| zextByte w1
  | w0 :: _ => 0x00010000#32 ||| (zextByte w0 <<< 8)
  | [] => 0x00010000#32

/-- What UNESC writes to `RESULT`: the byte the pair stands for, or the malformed flag in bit 8 (R84). -/
def unescResult (y : Byte) : Word :=
  match unescByte y with
  | some x => zextByte x
  | none => 0x00000100

/-- STUFF (R83). -/
def execStuff (c : Byte) (s : State) : Host.Outcome State Fault Refusal :=
  .next (s.setResult (stuffResult c))

/-- UNESC (R84). -/
def execUnesc (c : Byte) (s : State) : Host.Outcome State Fault Refusal :=
  .next (s.setResult (unescResult c))

/-! ### Command frames -/

/-- `CMD(k)` of R64. -/
def serialCmdByte : SensorCmd → Byte
  | .start => 0x00
  | .stop => 0x01
  | .clean => 0x56
  | .readData => 0x03

/-- `DATA(k)` of R64. -/
def serialCmdData (p : Params) : SensorCmd → List Byte
  | .start => p.serialStartData
  | .stop => []
  | .clean => []
  | .readData => []

/-- The bytes of a command frame that its checksum covers: ADDRESS, CMD, LEN and DATA (R63). -/
def frameBody (cmd : Byte) (data : List Byte) : List Byte :=
  [Config.serAddr, cmd, BitVec.ofNat 8 data.length] ++ data

/-- A serial command frame (R63). It is not stuffed (R85). -/
def commandFrame (cmd : Byte) (data : List Byte) : List Byte :=
  [Config.startMark] ++ frameBody cmd data ++ [frameChecksum (frameBody cmd data), Config.endMark]

/-- `SerFrame(k)` (R85). -/
def serFrame (p : Params) (k : SensorCmd) : List Byte :=
  commandFrame (serialCmdByte k) (serialCmdData p k)

/-- `SerSend(k)` (R85). -/
def serSend (k : SensorCmd) (s : State) : State :=
  s.txSend (serFrame s.cfg k)

/-! ### The serial decode -/

/-- What one operation of a decode leads to. -/
inductive DecodeNext
  /-- The decode goes on there. -/
  | goOn (d : DecodeStep)
  /-- The decode ends with `Ok(p)`. -/
  | done (p : List Byte)
  /-- The decode ends with `Fail(k)`, nothing being discarded. -/
  | failed (k : FailKind)
  /-- The decode ends with `Fail(k)` after a discard (R96). -/
  | failedDiscard (k : FailKind)
  deriving DecidableEq, Repr

/-- Steps 1 to 3 of R90, with one sample of `RxAvail` (R92). -/
def serialLook (s : State) : DecodeNext :=
  if s.rxAvail = 0 then .failed .noDataAvailable
  else if s.rxPeek ≠ some Config.startMark then .failedDiscard .resynchronizing
  else if s.rxAvail < Config.minFrame then .failed .incompleteFrame
  else .goOn (.header [])

/-- Step 4 of R90 after popping `b`: the running sum starts with header bytes 1 to 4 (step 6), and a nonzero status
byte fails the read (R93). -/
def serialHeader (h : List Byte) (b : Byte) : DecodeNext :=
  if (h ++ [b]).length < Config.hdrLen then .goOn (.header (h ++ [b]))
  else if byteAt (h ++ [b]) 3 ≠ 0x00 then .failedDiscard .sensorFault
  else .goOn (.payload [] (byteSum ((h ++ [b]).drop 1)))

/-- Step 5 of R90 with the next de-stuffed byte `x`: it joins the payload and the running sum (step 6), and the loop
ends when 40 bytes are collected. -/
def serialPush (p : List Byte) (sum x : Byte) : DecodeNext :=
  if (p ++ [x]).length < Config.payloadLen then .goOn (.payload (p ++ [x]) (sum + x))
  else .goOn (.chk (p ++ [x]) (sum + x))

/-- Step 5 of R90 after popping the wire byte `x`. -/
def serialPayload (p : List Byte) (sum x : Byte) : DecodeNext :=
  if x = Config.escMark then .goOn (.escape p sum) else serialPush p sum x

/-- Step 5 of R90 after popping the second byte `y` of an escape pair. -/
def serialEscape (p : List Byte) (sum y : Byte) : DecodeNext :=
  match unescByte y with
  | some x => serialPush p sum x
  | none => .failedDiscard .framingError

/-- Steps 7 to 9 of R90 after popping the END byte `e`: the END marker first, then the checksum (R96). -/
def serialTrailer (p : List Byte) (sum c e : Byte) : DecodeNext :=
  if e ≠ Config.endMark then .failedDiscard .framingError
  else if ~~~sum ≠ c then .failedDiscard .checksumMismatch
  else .done p

/-- What popping the byte `b` leads to, at each place of the serial decode that pops (R90). -/
def serialPopped (d : DecodeStep) (b : Byte) : DecodeNext :=
  match d with
  | .header h => serialHeader h b
  | .payload p sum => serialPayload p sum b
  | .escape p sum => serialEscape p sum b
  | .chk p sum => .goOn (.trailer p sum b)
  | .trailer p sum c => serialTrailer p sum c b
  | .look => .goOn .look
  | .ready => .goOn .ready
  | .data => .goOn .data

end Sys2Proof.Machine
end

