-- ==== Sys2Proof/Machine/Bus.lean ====
section
/-! DEFINITION. The Bus Transaction Verifier (42_bus_codec.md): the command writes of R100 and the two checks of the
bus decode of R101. -/

namespace Sys2Proof.Machine

/-- The pointer of a command's bus write (R68). -/
def busPtr : SensorCmd → BitVec 16
  | .start => 0x0010
  | .stop => 0x0104
  | .clean => 0x5607
  | .readData => 0x0202

/-- The data bytes of a command's bus write: only start may carry a word, with its CRC-8 behind it (R67, R100). -/
def busData (p : Params) : SensorCmd → List Byte
  | .start =>
    match p.busStartData with
    | none => []
    | some (d0, d1) => [d0, d1, crc8 d0 d1]
  | .stop => []
  | .clean => []
  | .readData => []

/-- `BusSend(k)` (R100). -/
def busSend (k : SensorCmd) (s : State) : State :=
  s.busWrite (busPtr k) (busData s.cfg k)

/-- The pointer of the readiness transaction (R101). -/
def readyPtr : BitVec 16 := 0x0202

/-- Whether an answer passes the readiness check: 3 bytes, the CRC-8 good, the ready pair (R101, R102). -/
def busReady (r : List Byte) : Bool :=
  match r with
  | [r0, r1, r2] => crc8 r0 r1 == r2 && r0 == 0x00 && r1 == 0x01
  | _ => false

/-- The payload of a sequence of groups, in group order, if every group's CRC-8 is good (R101, R105, R108). -/
def busGroups : List Byte → Option (List Byte)
  | [] => some []
  | d0 :: d1 :: c :: rest =>
    if crc8 d0 d1 = c then (busGroups rest).map fun p => d0 :: d1 :: p else none
  | _ => none

/-- The outcome of the data transaction with the answer `d`: its size first, then its groups (R101, R138). -/
def busVerify (d : List Byte) : DecodeNext :=
  if d.length ≠ Config.dataLen then .failed .transactionSizeMismatch
  else match busGroups d with
    | none => .failed .checksumMismatch
    | some p => .done p

end Sys2Proof.Machine
end

