-- ==== Sys2Proof/Machine/Link.lean ====
section
/-! DEFINITION. The Link-Health unit (43_link.md): the sending commands, READ and INIT, and the engine, which carries
a READ through its phases one operation at a time (R113, R114). -/

namespace Sys2Proof.Machine

/-- `Send(k)` of the block's mode (R111). -/
def send (k : SensorCmd) (s : State) : State :=
  match s.cfg.mode with
  | .serial => serSend k s
  | .bus => busSend k s

/-- PWRON (R86). -/
def execPwron (s : State) : Host.Outcome State Fault Refusal :=
  .next (send .start s)

/-- PWROFF (R87). -/
def execPwroff (s : State) : Host.Outcome State Fault Refusal :=
  .next (send .stop s)

/-- CLEAN (R88). -/
def execClean (s : State) : Host.Outcome State Fault Refusal :=
  .next (send .clean s)

/-- REQDATA (R89). -/
def execReqdata (s : State) : Host.Outcome State Fault Refusal :=
  .next (send .readData s)

/-- Where `Decode()` of the block's mode begins (R111). -/
def decodeStart : Mode → DecodeStep
  | .serial => .look
  | .bus => .ready

/-- READ (R113): `phase <- DECODE`, and the host's `CMD` write is done; the engine carries the READ on from here
(`engineTurn`) while host accesses are served (R47, R51). -/
def execRead (s : State) : Host.Outcome State Fault Refusal :=
  .next (s.setEngine (.decode (decodeStart s.cfg.mode)))

/-- INIT (R121). -/
def execInit (s : State) : Host.Outcome State Fault Refusal :=
  .next
    { s with
      linkState := .initializing
      isHealthy := false
      badCnt := 0
      goodCnt := Config.goodCntInit
      lastGoodTs := s.now }

/-! ### The engine -/

/-- The end of a failed decode at the time sample `t1 = Now()`: recovery if the last good read is too old, else the
commit (R113, R117). -/
def endFailed (k : FailKind) (s : State) : State :=
  if elapsed s.now s.lastGoodTs > s.threshold then s.setEngine (.recover .off k)
  else s.setEngine (.commit (.fail k none))

/-- What the engine does when an operation of the decode led to `r` (R113). -/
def afterDecode (r : DecodeNext) (s : State) : State :=
  match r with
  | .goOn d => s.setEngine (.decode d)
  | .done p => s.setEngine (.commit (.ok p s.now))
  | .failed k => endFailed k s
  | .failedDiscard k => s.setEngine (.discard k)

/-- A place of the serial decode that pops: it holds on an empty queue (R40, R157). -/
def popTurn (d : DecodeStep) (s : State) : State :=
  match s.rxPop with
  | none => s
  | some (b, t) => afterDecode (serialPopped d b) t

/-- The readiness transaction and its check (R101, R102). -/
def readyTurn (s : State) : State :=
  afterDecode (if busReady s.nextAnswer then .goOn .data else .failed .notReady)
    (s.busRead readyPtr Config.readyLen)

/-- The data transaction and its checks (R101, R104, R105). -/
def dataTurn (s : State) : State :=
  afterDecode (busVerify s.nextAnswer) (s.busRead s.cfg.busAddrData Config.dataLen)

/-- One operation of the decode in progress (R90, R101). -/
def decodeTurn (d : DecodeStep) (s : State) : State :=
  match d with
  | .look => afterDecode (serialLook s) s
  | .ready => readyTurn s
  | .data => dataTurn s
  | .header _ | .payload _ _ | .escape _ _ | .chk _ _ | .trailer _ _ _ => popTurn d s

/-- The command of a recovery stage (R118). -/
def stageCmd : Stage → SensorCmd
  | .off => .stop
  | .on => .start
  | .clean => .clean

/-- The settle time of a recovery stage (R118). -/
def stageSettle (p : Params) : Stage → Word
  | .off => p.tSettleOff
  | .on => p.tSettleOn
  | .clean => p.tSettleClean

/-- Where the sequencer goes when the wait of a stage is over at time `t`: the next stage, or the commit with the
recovery's completion time (R118). -/
def afterStage (g : Stage) (k : FailKind) (t : Word) : Engine :=
  match g with
  | .off => .recover .on k
  | .on => .recover .clean k
  | .clean => .commit (.fail k (some t))

/-- `Wait(T)` (R43): the engine holds until the clock has advanced by the settle time from `t0`. -/
def waitTurn (g : Stage) (k : FailKind) (t0 : Word) (s : State) : State :=
  if elapsed s.now t0 ≥ stageSettle s.cfg g then s.setEngine (afterStage g k s.now) else s

/-- The commit of a successful READ: all its registers at one instant (R113, R115, R119). -/
def commitOk (p : List Byte) (t1 : Word) (s : State) : State :=
  { s with
    record := recordOf p
    recValid := true
    badCnt := 0
    goodCnt := sat32 (s.goodCnt.toNat + 1)
    lastGoodTs := t1
    linkState := .healthy
    isHealthy := true
    lastResult := .success
    recovered := false
    engine := .idle }

/-- Whether one more failure degrades the link (R116). -/
def degrades (s : State) : Bool :=
  (sat32 (s.badCnt.toNat + 1)).toNat ≥ Config.degradeLimit

/-- The commit of a failed READ: all its registers at one instant (R113, R116 to R119). -/
def commitFail (k : FailKind) (t2 : Option Word) (s : State) : State :=
  { s with
    badCnt := sat32 (s.badCnt.toNat + 1)
    linkState := if degrades s then .degraded else s.linkState
    isHealthy := if degrades s then false else s.isHealthy
    lastResult := .failed k
    lastGoodTs := t2.getD s.lastGoodTs
    recovered := t2.isSome
    engine := .idle }

/-- The commit of a READ (R119). -/
def commitRead (r : ReadEnd) (s : State) : State :=
  match r with
  | .ok p t1 => commitOk p t1 s
  | .fail k t2 => commitFail k t2 s

/-- One step of the engine: the next operation of the READ in progress, none while idle (R113, R114). What is one step
is a DESIGN CHOICE (log entry 8), and a clock sample belongs to the step it follows (DEDUCED, log entry 7). -/
def engineTurn (s : State) : State :=
  match s.engine with
  | .idle => s
  | .decode d => decodeTurn d s
  | .discard k => endFailed k (s.rxDiscard Config.discardMax)
  | .recover g k => (send (stageCmd g) s).setEngine (.wait g k s.now)
  | .wait g k t0 => waitTurn g k t0 s
  | .commit r => commitRead r s

end Sys2Proof.Machine
end

