-- ==== Sys2Proof/Machine/Dispatch.lean ====
section
/-! DEFINITION. The meaning of every command of the opcode table, one arm per constructor of `Instr` (R58, R59). -/

namespace Sys2Proof.Machine

def exec (i : Instr) (s : State) : Host.Outcome State Fault Refusal :=
  match i with
  | .crc8 a b => Sys2Proof.Machine.execCrc8 a b s
  | .crcchk a b c => Sys2Proof.Machine.execCrcchk a b c s
  | .sumclr => Sys2Proof.Machine.execSumclr s
  | .sumadd c => Sys2Proof.Machine.execSumadd c s
  | .stuff c => Sys2Proof.Machine.execStuff c s
  | .unesc c => Sys2Proof.Machine.execUnesc c s
  | .pwron => Sys2Proof.Machine.execPwron s
  | .pwroff => Sys2Proof.Machine.execPwroff s
  | .clean => Sys2Proof.Machine.execClean s
  | .reqdata => Sys2Proof.Machine.execReqdata s
  | .read => Sys2Proof.Machine.execRead s
  | .init => Sys2Proof.Machine.execInit s

end Sys2Proof.Machine
end

