-- ==== Sys2Proof/Machine/HostInterface.lean ====
section
/-! DEFINITION. The host interface: the register map (R13), host reads and writes with their faults and their priority
(R44 to R47, R134, R139), the acceptance of a command word (R58, R60), and the turns of the agents (R12). -/

namespace Sys2Proof.Machine

/-- The registers of the map (R13). -/
inductive Reg
  | cmd
  | status
  | result
  | sumacc
  | threshold
  | health
  | badCnt
  | goodCnt
  | lastGoodTs
  | record (i : Fin 10)
  deriving DecidableEq, Repr

/-- The register map: which register stands at a byte offset, none at a reserved one (R13). -/
def regAt (off : Nat) : Option Reg :=
  match off with
  | 0x00 => some .cmd
  | 0x04 => some .status
  | 0x08 => some .result
  | 0x0C => some .sumacc
  | 0x10 => some .threshold
  | 0x14 => some .health
  | 0x18 => some .badCnt
  | 0x1C => some .goodCnt
  | 0x20 => some .lastGoodTs
  | 0x40 => some (.record 0)
  | 0x44 => some (.record 1)
  | 0x48 => some (.record 2)
  | 0x4C => some (.record 3)
  | 0x50 => some (.record 4)
  | 0x54 => some (.record 5)
  | 0x58 => some (.record 6)
  | 0x5C => some (.record 7)
  | 0x60 => some (.record 8)
  | 0x64 => some (.record 9)
  | _ => none

/-- What a host sees at `RECORD[i]`: the register, or the draw fixed at reset while no record is valid (R26, I-3). -/
def recordRead (i : Fin 10) (s : State) : Word :=
  if s.recValid then s.record[i] else Config.recordDraw s.resets i.val

/-- The value of a host read (R14 to R26). -/
def readReg (r : Reg) (s : State) : Word :=
  match r with
  | .cmd => 0
  | .status => statusWord s
  | .result => s.result
  | .sumacc => sumaccWord s
  | .threshold => s.threshold
  | .health => healthWord s
  | .badCnt => s.badCnt
  | .goodCnt => s.goodCnt
  | .lastGoodTs => s.lastGoodTs
  | .record i => recordRead i s

/-- The offset of a host address in the block's window of 0x80 bytes at `BASE_ADDR`, if it lies there (R6, R13). -/
def offsetOf (p : Params) (addr : Nat) : Option Nat :=
  if p.baseAddr ≤ addr ∧ addr < p.baseAddr + 0x80 then some (addr - p.baseAddr) else none

/-- Whether an access has the one legal form: 4 bytes at an offset that is a multiple of 4 (R44). -/
def wholeWord (off size : Nat) : Bool :=
  size == 4 && off % 4 == 0

/-- `MemRead(off, 4)`, alignment and width already checked (R45, R46). -/
def hostRead (off : Nat) (s : State) : Host.Outcome State Fault Refusal :=
  match regAt off with
  | none => .fault .unmappedOrReadonly
  | some r => .next (s.logRead off (readReg r s))

/-- A word written to `CMD` while idle: the decoder reads it; a legal command runs, an illegal word sets `ILLEGAL`
(R58, R60, R135). -/
def acceptCommand (w : Word) (s : State) : Host.Outcome State Fault Refusal :=
  match decode w with
  | .ok i => exec i s
  | .error _ => .next s.raiseIllegal

/-- `MemWrite(off, 4, v)`, alignment and width already checked (R45 to R47, R139). -/
def hostWrite (off : Nat) (v : Word) (s : State) : Host.Outcome State Fault Refusal :=
  match regAt off with
  | some .cmd => if s.busy then .next s.raiseOverrun else acceptCommand v s
  | some .status => if s.busy then .next s.raiseOverrun else .next (s.clearSticky v)
  | some .threshold => if s.busy then .next s.raiseOverrun else .next (s.setThreshold v)
  | _ => .fault .unmappedOrReadonly

/-- One host access. Outside the block's window it is not the block's and changes nothing (log entry 5); inside, the
form of the access is checked first (R44, R139). -/
def hostAccess (a : Access) (s : State) : Host.Outcome State Fault Refusal :=
  match a with
  | .read addr size =>
    match offsetOf s.cfg addr with
    | none => .next s
    | some off => if wholeWord off size then hostRead off s else .fault .misalignedOrNarrow
  | .write addr size v =>
    match offsetOf s.cfg addr with
    | none => .next s
    | some off => if wholeWord off size then hostWrite off v s else .fault .misalignedOrNarrow

/-- One round of the loop `POLL`: read `STATUS`, and stop polling once `BUSY` reads 0 (R72, log entry 14); `ops` follows
it. -/
def pollTurn (ops : List HostOp) (s : State) : State :=
  if s.busy then s.logRead 0x04 (statusWord s)
  else { s.logRead 0x04 (statusWord s) with program := ops }

/-- The host's turn: its next operation, if it has one (R12, R51). -/
def hostTurn (s : State) : Host.Outcome State Fault Refusal :=
  match s.program with
  | [] => .next s
  | .access a :: ops => hostAccess a { s with program := ops }
  | .poll :: ops => .next (pollTurn ops s)

/-- One turn of the agent named (R12). A turn with nothing to do changes nothing (log entry 11), and a reset is one turn
(log entry 15). -/
def takeTurn (t : Turn) (s : State) : Host.Outcome State Fault Refusal :=
  match t with
  | .host => hostTurn s
  | .engine => .next (engineTurn s)
  | .peer bytes => .next (s.rxAppend bytes)
  | .answer bytes => .next (s.addAnswer bytes)
  | .tick d => .next (s.tick d)
  | .reset => .next s.resetBlock

/-- Whose turn it is when none is listed: the engine's during a READ, else the host's (log entry 4). -/
def defaultTurn (s : State) : Turn :=
  if s.busy then .engine else .host

/-- The next turn, and the state in which it is taken. -/
def nextTurn (s : State) : Turn × State :=
  match s.sched with
  | [] => (defaultTurn s, s)
  | t :: ts => (t, { s with sched := ts })

/-- The state in which the very next step accepts the command word `w`: the sequencer idle, the next turn the host's,
and the host's next operation the write of `w` to `CMD` (log entry 6). -/
def placeCommand (w : Word) (s : State) : State :=
  { s with
    engine := .idle
    sched := .host :: s.sched
    program := .access (.write s.cfg.baseAddr 4 w) :: s.program }

end Sys2Proof.Machine
end

