-- ==== Sys2Proof/Machine/HostProgram.lean ====
section
/-! DEFINITION. Host programs (R71, R72): the statements, the check on their operands, and the host operations they
stand for. A program runs by being placed in `State.program`. -/

namespace Sys2Proof.Machine

/-- A statement of a host program, operands as written: numbers (R71), and the pseudo-statements (R72). The NAME of a
`rd` is the place of its value in `State.hostReads`. -/
inductive Stmt
  /-- `wr OFF, V`. -/
  | wr (off v : Nat)
  /-- `rd OFF`. -/
  | rd (off : Nat)
  | crc8 (a b : Nat)
  | crcchk (a b c : Nat)
  | sumclr
  | sumadd (c : Nat)
  | stuff (c : Nat)
  | unesc (c : Nat)
  | pwron
  | pwroff
  | clean
  | reqdata
  | read
  | init
  /-- `POLL`. -/
  | poll
  /-- `FCS b0, ..., bn`. -/
  | fcs (bs : List Nat)
  /-- `SETTHR v`. -/
  | setthr (v : Nat)
  /-- `CLRERR`. -/
  | clrerr
  /-- `ATTEMPT`. -/
  | attempt
  /-- `HEALTHSNAP`. -/
  | healthsnap
  deriving DecidableEq, Repr

/-- Whether a number is a command operand: 0 to 255 (R71). -/
def operandOk (n : Nat) : Bool :=
  n ≤ 255

/-- Whether a statement is well formed: command operands in 0..255 (R71), offsets in the block's window (R13), and
written values of 32 bits (R9). -/
def Stmt.wf : Stmt → Bool
  | .wr off v => off < 0x80 && v < 2 ^ 32
  | .rd off => off < 0x80
  | .crc8 a b => operandOk a && operandOk b
  | .crcchk a b c => operandOk a && operandOk b && operandOk c
  | .sumadd c => operandOk c
  | .stuff c => operandOk c
  | .unesc c => operandOk c
  | .fcs bs => bs.all operandOk
  | .setthr v => v < 2 ^ 32
  | .sumclr => true
  | .pwron => true
  | .pwroff => true
  | .clean => true
  | .reqdata => true
  | .read => true
  | .init => true
  | .poll => true
  | .clrerr => true
  | .attempt => true
  | .healthsnap => true

/-- `wr OFF, V` for a block at `base`. -/
def wrOp (base off : Nat) (v : Word) : HostOp :=
  .access (.write (base + off) 4 v)

/-- `rd OFF` for a block at `base`. -/
def rdOp (base off : Nat) : HostOp :=
  .access (.read (base + off) 4)

/-- A command statement: `wr 0x00, <encoding>` (R71). -/
def cmdOp (base : Nat) (i : Instr) : HostOp :=
  wrOp base 0x00 (encode i)

/-- The byte an operand number stands for (R71). -/
def operandByte (n : Nat) : Byte :=
  BitVec.ofNat 8 n

/-- The host operations of a statement (R71, R72). -/
def assemble (base : Nat) : Stmt → List HostOp
  | .wr off v => [wrOp base off (BitVec.ofNat 32 v)]
  | .rd off => [rdOp base off]
  | .crc8 a b => [cmdOp base (.crc8 (operandByte a) (operandByte b))]
  | .crcchk a b c => [cmdOp base (.crcchk (operandByte a) (operandByte b) (operandByte c))]
  | .sumclr => [cmdOp base .sumclr]
  | .sumadd c => [cmdOp base (.sumadd (operandByte c))]
  | .stuff c => [cmdOp base (.stuff (operandByte c))]
  | .unesc c => [cmdOp base (.unesc (operandByte c))]
  | .pwron => [cmdOp base .pwron]
  | .pwroff => [cmdOp base .pwroff]
  | .clean => [cmdOp base .clean]
  | .reqdata => [cmdOp base .reqdata]
  | .read => [cmdOp base .read]
  | .init => [cmdOp base .init]
  | .poll => [.poll]
  | .fcs bs => cmdOp base .sumclr :: bs.map fun b => cmdOp base (.sumadd (operandByte b))
  | .setthr v => [wrOp base 0x10 (BitVec.ofNat 32 v)]
  | .clrerr => [wrOp base 0x04 0x00000006]
  | .attempt => [cmdOp base .read, .poll, rdOp base 0x04]
  | .healthsnap => [.poll, rdOp base 0x14, rdOp base 0x18, rdOp base 0x1C, rdOp base 0x20]

/-- The host operations of a program, statement after statement. -/
def assembleAll (base : Nat) (prog : List Stmt) : List HostOp :=
  prog.flatMap (assemble base)

end Sys2Proof.Machine
end

