-- ==== Sys2Proof/Machine/Reference.lean ====
section
/-! DEFINITION. `SerialDecode()` of R90 as one function of the whole receive queue, for statements only: the engine
runs the same decode one port operation at a time (Machine/Serial.lean), and a statement compares the two. The
checksum here is `frameChecksum` over the covered bytes (R95), not a running sum. -/

namespace Sys2Proof.Machine

/-- What collecting the payload from the queue ends with (R94). -/
inductive Collected
  /-- The de-stuffed bytes asked for, and the queue behind them. -/
  | full (p rest : List Byte)
  /-- A malformed escape pair, and the queue behind it. -/
  | malformed (rest : List Byte)
  /-- The queue ran dry first. -/
  | dry
  deriving DecidableEq, Repr

/-- One more de-stuffed byte in front. -/
def Collected.push (x : Byte) : Collected → Collected
  | .full p rest => .full (x :: p) rest
  | .malformed rest => .malformed rest
  | .dry => .dry

/-- Collecting `n` de-stuffed bytes from the head of a queue (step 5 of R90). -/
def collect : Nat → List Byte → Collected
  | 0, q => .full [] q
  | _ + 1, [] => .dry
  | n + 1, x :: q =>
    if x = Config.escMark then
      match q with
      | [] => .dry
      | y :: q' =>
        match unescByte y with
        | none => .malformed q'
        | some z => (collect n q').push z
    else (collect n q).push x

/-- What a serial decode ends with. -/
inductive SerialOutcome
  /-- `Ok(p)`, and the queue it leaves. -/
  | ok (p rest : List Byte)
  /-- `Fail(k)`, and the queue it leaves. -/
  | fail (k : FailKind) (rest : List Byte)
  /-- The decode holds for bytes that have not arrived (R157). -/
  | hold
  deriving DecidableEq, Repr

/-- The end of R90: the checksum byte, the END byte, and the two checks in their order (R96), for the covered header
bytes `h` and the payload `p`. -/
def trailerRef (h p : List Byte) : List Byte → SerialOutcome
  | c :: e :: rest =>
    if e ≠ Config.endMark then .fail .framingError (rest.drop Config.discardMax)
    else if frameChecksum (h ++ p) ≠ c then .fail .checksumMismatch (rest.drop Config.discardMax)
    else .ok p rest
  | _ => .hold

/-- Steps 4 to 9 of R90 on a queue of at least 47 bytes. -/
def frameRef (q : List Byte) : SerialOutcome :=
  if byteAt q 3 ≠ 0x00 then .fail .sensorFault ((q.drop Config.hdrLen).drop Config.discardMax)
  else match collect Config.payloadLen (q.drop Config.hdrLen) with
    | .full p rest => trailerRef ((q.take Config.hdrLen).drop 1) p rest
    | .malformed rest => .fail .framingError (rest.drop Config.discardMax)
    | .dry => .hold

/-- `SerialDecode()` on the queue `q`, nothing arriving meanwhile (R90). -/
def serialDecodeRef (q : List Byte) : SerialOutcome :=
  if q.length = 0 then .fail .noDataAvailable q
  else if q.head? ≠ some Config.startMark then .fail .resynchronizing (q.drop Config.discardMax)
  else if q.length < Config.minFrame then .fail .incompleteFrame q
  else frameRef q

/-- A serial response frame with a good checksum (R65, R99). -/
def responseFrame (adr cmd len : Byte) (p : List Byte) : List Byte :=
  [Config.startMark, adr, cmd, 0x00, len] ++ stuffBytes p
    ++ [frameChecksum ([adr, cmd, 0x00, len] ++ p), Config.endMark]

end Sys2Proof.Machine
end

