-- ==== Sys2Proof/Safety.lean ====
section
/-! DEFINITION. The terms statements use: a host program that raises no host fault, the invariant of the states the
block reaches, what it means that registers are kept, and runs of commands. -/

namespace Sys2Proof.Machine

/-! ### Host programs without host faults (R44, R45, R134) -/

/-- Whether a host may write the register (R13, R45). -/
def Reg.writable : Reg → Bool
  | .cmd => true
  | .status => true
  | .threshold => true
  | _ => false

/-- Whether an access raises no host fault: it is not the block's, or it is an aligned 32-bit access to a register
that has that access. -/
def Access.legal (p : Params) : Access → Bool
  | .read addr size =>
    match offsetOf p addr with
    | none => true
    | some off => wholeWord off size && (regAt off).isSome
  | .write addr size _ =>
    match offsetOf p addr with
    | none => true
    | some off => wholeWord off size && (regAt off).any Reg.writable

/-- Whether a host operation raises no host fault. -/
def HostOp.legal (p : Params) : HostOp → Bool
  | .access a => a.legal p
  | .poll => true

/-- Every remaining operation of the host is legal. -/
def Safe (s : State) : Prop :=
  ∀ op ∈ s.program, op.legal s.cfg = true

/-! ### The invariant of reachable states -/

/-- The failure kinds a READ can end with in each mode (the modes column of R133). -/
def kindIn : Mode → FailKind → Bool
  | .serial, .transactionSizeMismatch => false
  | .serial, .notReady => false
  | .serial, _ => true
  | .bus, .checksumMismatch => true
  | .bus, .transactionSizeMismatch => true
  | .bus, .notReady => true
  | .bus, _ => false

/-- The failure kinds behind a discard (R126, R128 to R130). -/
def discardKind : FailKind → Bool
  | .resynchronizing => true
  | .sensorFault => true
  | .checksumMismatch => true
  | .framingError => true
  | _ => false

/-- Where a decode can stand: the places of the block's mode, with fewer than 5 header bytes popped and enough queued
for the rest of the header and frame (R93), fewer than 40 payload bytes while collecting, and 40 at the trailer. -/
def decodeOk (m : Mode) (queued : Nat) : DecodeStep → Prop
  | .look => m = .serial
  | .header h => m = .serial ∧ h.length < Config.hdrLen ∧ Config.minFrame ≤ h.length + queued
  | .payload p _ => m = .serial ∧ p.length < Config.payloadLen
  | .escape p _ => m = .serial ∧ p.length < Config.payloadLen
  | .chk p _ => m = .serial ∧ p.length = Config.payloadLen
  | .trailer p _ _ => m = .serial ∧ p.length = Config.payloadLen
  | .ready => m = .bus
  | .data => m = .bus

/-- Where the sequencer can stand. -/
def engineOk (m : Mode) (queued : Nat) : Engine → Prop
  | .idle => True
  | .decode d => decodeOk m queued d
  | .discard k => m = .serial ∧ discardKind k = true
  | .recover _ k => kindIn m k = true
  | .wait _ k _ => kindIn m k = true
  | .commit (.ok p _) => p.length = Config.payloadLen
  | .commit (.fail k _) => kindIn m k = true

/-- The invariant: what holds in every state the block reaches (DEDUCED where it goes beyond the rules named, log entry
16). -/
structure Inv (s : State) : Prop where
  /-- R20. -/
  healthy_iff : s.isHealthy = true ↔ s.linkState = .healthy
  /-- R120: Degraded exactly while the failure count is at least 5. -/
  degraded_iff : s.linkState = .degraded ↔ Config.degradeLimit ≤ s.badCnt.toNat
  /-- R22: the good-read counter is at least 1. -/
  good_pos : 1 ≤ s.goodCnt.toNat
  /-- R115, R121: a healthy link has had a successful READ since the last INIT or reset. -/
  healthy_read : s.linkState = .healthy → s.recValid = true ∧ 2 ≤ s.goodCnt.toNat
  /-- R17: after a successful READ the record is valid. -/
  success_valid : s.lastResult = .success → s.recValid = true
  /-- R17, R133: before any READ has completed the record is not valid. -/
  none_invalid : s.lastResult = .noneYet → s.recValid = false
  /-- R17, R113: only a failed READ recovers. -/
  recovered_failed : s.recovered = true → ∃ k, s.lastResult = .failed k
  /-- R133: the recorded failure kind is one of the block's mode. -/
  result_mode : ∀ k, s.lastResult = .failed k → kindIn s.cfg.mode k = true
  /-- R27, R33. -/
  engine_ok : engineOk s.cfg.mode s.rx.length s.engine

/-! ### What a step keeps -/

/-- Every register but `STATUS.OVERRUN` and `STATUS.BUSY` holds what it held (R47). -/
structure KeepsRegisters (s t : State) : Prop where
  illegal : t.illegal = s.illegal
  recValid : t.recValid = s.recValid
  lastResult : t.lastResult = s.lastResult
  recovered : t.recovered = s.recovered
  result : t.result = s.result
  acc : t.acc = s.acc
  threshold : t.threshold = s.threshold
  linkState : t.linkState = s.linkState
  isHealthy : t.isHealthy = s.isHealthy
  badCnt : t.badCnt = s.badCnt
  goodCnt : t.goodCnt = s.goodCnt
  lastGoodTs : t.lastGoodTs = s.lastGoodTs
  record : t.record = s.record
  resets : t.resets = s.resets

/-- The order of the phases of one READ (R114). -/
def phaseRank : Phase → Nat
  | .idle => 0
  | .decode => 1
  | .discard => 2
  | .recoverOff => 3
  | .waitOff => 4
  | .recoverOn => 5
  | .waitOn => 6
  | .recoverClean => 7
  | .waitClean => 8
  | .commit => 9

/-- The command word the next step accepts, if it accepts one: the host's turn is next, the block is idle, and the
host's next operation is an aligned 32-bit write to `CMD` (R14, R58). -/
def acceptedWord (s : State) : Option Word :=
  if s.busy || (nextTurn s).1 != .host then none
  else match s.program with
    | .access (.write addr size v) :: _ =>
      if offsetOf s.cfg addr = some 0x00 ∧ size = 4 then some v else none
    | _ => none

/-- The command the next step runs, if it runs one. -/
def acceptedCommand (s : State) : Option Instr :=
  (acceptedWord s).bind fun w => (decode w).toOption

/-- The engine is at a place of the serial decode that pops (R40, R90). -/
def popsNext : Engine → Bool
  | .decode (.header _) => true
  | .decode (.payload _ _) => true
  | .decode (.escape _ _) => true
  | .decode (.chk _ _) => true
  | .decode (.trailer _ _ _) => true
  | _ => false

/-! ### Runs -/

/-- `n` steps of the machine, stopping at the first fault or refusal. -/
def runFor : Nat → State → Host.Outcome State Fault Refusal
  | 0, s => .next s
  | n + 1, s =>
    match step s with
    | .next t => runFor n t
    | .fault e => .fault e
    | .refused e => .refused e

/-- Executing commands one after another, stopping at the first that does not complete (R51). -/
def runCommands : List Instr → State → Host.Outcome State Fault Refusal
  | [], s => .next s
  | i :: is, s =>
    match exec i s with
    | .next t => runCommands is t
    | .fault r => .fault r
    | .refused r => .refused r

/-- The sum of a byte list as a number. -/
def natSum (p : List Byte) : Nat :=
  (p.map BitVec.toNat).sum

/-- One more message bit, most significant first, into a CRC shift register: the bit leaving at the top, added to the
message bit, decides whether the polynomial is folded in. -/
def crcBit (acc : Byte) (m : Bool) : Byte :=
  if acc.getLsbD 7 ^^ m then (acc <<< 1) ^^^ 0x31 else acc <<< 1

/-- The bits of a byte, most significant first. -/
def msbFirst (b : Byte) : List Bool :=
  [b.getLsbD 7, b.getLsbD 6, b.getLsbD 5, b.getLsbD 4, b.getLsbD 3, b.getLsbD 2, b.getLsbD 1, b.getLsbD 0]

/-- The bit syndromes of R80 item 5. -/
def syndromes : List Byte :=
  [0x31, 0x62, 0xC4, 0xB9, 0x43, 0x86, 0x3D, 0x7A, 0xF4, 0xD9, 0x83, 0x37, 0x6E, 0xDC, 0x89, 0x23]

/-- Several failed READs after one another, by their commits (R119). -/
def commitFails : List (FailKind × Option Word) → State → State
  | [], s => s
  | (k, t2) :: rest, s => commitFails rest (commitFail k t2 s)

end Sys2Proof.Machine
end

