-- ==== Sys2Proof/Certificates/Slice0/Obligations.lean ====
section
/-! DEFINITION. The statements for the provers, family by family. Each docstring names the rule of spec/ it comes from.
A statement is about every state and every value of the construction parameters unless it says otherwise. Which agent
takes the next turn (`nextTurn`, `State.sched`) is the model's form of R12 (log entry 4), and a number of engine steps
counts the model's own units (log entry 8). -/

open Sys2Proof Sys2Proof.Machine

/-! ### Command words (30_encoding.md) -/

/-- R58, R59, R61, R71: a word decodes to a command exactly when it is the word that encodes it. So decode and encode
agree on every command and every operand, and no other word is legal. -/
def Obligations.DecodeAndEncodeAgree : Prop :=
  ∀ (w : Word) (i : Instr), decode w = .ok i ↔ w = encode i

/-- R58 to R61: the decoder accepts exactly the words whose fields fit a row of the opcode map of R59. -/
def Obligations.LegalWordsAreTheOpcodeMap : Prop :=
  ∀ w : Word, (∃ i, decode w = .ok i) ↔ (fieldsOf w).wf = true

/-- R57: the four fields are the four bytes of the word, most significant first, and they determine it. -/
def Obligations.FieldsAndWordAgree : Prop :=
  (∀ w : Word, wordOf (fieldsOf w) = w) ∧
  (∀ f : Fields, fieldsOf (wordOf f) = f) ∧
  (∀ f : Fields,
    (wordOf f).toNat = f.opc.toNat * 2 ^ 24 + f.a.toNat * 2 ^ 16 + f.b.toNat * 2 ^ 8 + f.c.toNat)

/-- R59, R60: words written out from the tables of 30_encoding.md and 95_test_vectors.md decode as listed. -/
def Obligations.ListedWordsDecode : Prop :=
  decode 0x01BEEF00 = .ok (.crc8 0xBE 0xEF) ∧
  decode 0x020001B0 = .ok (.crcchk 0x00 0x01 0xB0) ∧
  decode 0x03000000 = .ok .sumclr ∧
  decode 0x04000003 = .ok (.sumadd 0x03) ∧
  decode 0x05000011 = .ok (.stuff 0x11) ∧
  decode 0x06000033 = .ok (.unesc 0x33) ∧
  decode 0x10000000 = .ok .pwron ∧
  decode 0x11000000 = .ok .pwroff ∧
  decode 0x12000000 = .ok .clean ∧
  decode 0x13000000 = .ok .reqdata ∧
  decode 0x20000000 = .ok .read ∧
  decode 0x30000000 = .ok .init ∧
  decode 0x00000000 = .error .unassignedOpcode ∧
  decode 0x01000001 = .error .fieldNotZero ∧
  decode 0x04010000 = .error .fieldNotZero ∧
  decode 0x05000100 = .error .fieldNotZero ∧
  decode 0x07000000 = .error .unassignedOpcode ∧
  decode 0x20000100 = .error .fieldNotZero ∧
  decode 0x31000000 = .error .unassignedOpcode

/-- R14, R58: when it is the host's turn, the block is idle and the host writes to `CMD` a word that decodes to `i`,
the step is `exec i`, on the state in which the turn and the host's operation are spent. The turns are the model's
choice (log entry 4). -/
def Obligations.StepRunsTheDecodedCommand : Prop :=
  ∀ (s : State) (w : Word) (i : Instr) (ops : List HostOp),
    s.busy = false → (nextTurn s).1 = .host →
    s.program = .access (.write s.cfg.baseAddr 4 w) :: ops → decode w = .ok i →
    step s = exec i { s with sched := s.sched.tail, program := ops }

/-- R60: an illegal word sets `STATUS.ILLEGAL` and changes no register, port or sequencer state. -/
def Obligations.IllegalWordOnlySetsIllegal : Prop :=
  ∀ (s : State) (w : Word) (ops : List HostOp),
    s.busy = false → (nextTurn s).1 = .host →
    s.program = .access (.write s.cfg.baseAddr 4 w) :: ops → (fieldsOf w).wf = false →
    step s = .next { s with sched := s.sched.tail, program := ops, illegal := true }

/-- The placing of a command, the model's choice (log entry 6): from every state, the very next step after `withFetchWord` runs the
command, the READ in progress (if any) being gone. -/
def Obligations.PlacedCommandRunsNext : Prop :=
  ∀ (s : State) (nbits w : Nat) (i : Instr), decodeTableWord nbits w = some i →
    step (s.withFetchWord nbits w) = exec i { s with engine := .idle }

/-! ### Checksum Engine (40_checksum.md) -/

/-- R74: CRC8 is `0x01 : a : b : 0x00`, a nonzero C field is illegal, and it writes the CRC, zero-extended, to `RESULT`
and nothing else; with the corner cases and the example of the rule. -/
def Obligations.Crc8Command : Prop :=
  (∀ a b c : Byte, decode (wordOf ⟨0x01, a, b, c⟩) = if c = 0 then .ok (.crc8 a b) else .error .fieldNotZero) ∧
  (∀ (a b : Byte) (s : State), exec (.crc8 a b) s = .next { s with result := (crc8 a b).setWidth 32 }) ∧
  crc8 0x00 0x00 = 0x81 ∧ crc8 0xFF 0x00 = 0x00 ∧ crc8 0xFF 0xFF = 0xAC ∧
  (∀ s : State, exec (.crc8 0xBE 0xEF) s = .next { s with result := 0x00000092 })

/-- R75: CRCCHK writes 1 or 0 to `RESULT` and nothing else; every word with its opcode is legal; for each word exactly
one check byte passes; with the corner cases and examples of the rule. -/
def Obligations.CrcchkCommand : Prop :=
  (∀ a b c : Byte, decode (wordOf ⟨0x02, a, b, c⟩) = .ok (.crcchk a b c)) ∧
  (∀ (a b c : Byte) (s : State), crc8 a b = c → exec (.crcchk a b c) s = .next { s with result := 1 }) ∧
  (∀ (a b c : Byte) (s : State), crc8 a b ≠ c → exec (.crcchk a b c) s = .next { s with result := 0 }) ∧
  (∀ (a b : Byte) (s : State), ∃ c, ∀ c', exec (.crcchk a b c') s = .next { s with result := 1 } ↔ c' = c) ∧
  (∀ s : State, exec (.crcchk 0xFF 0x00 0x00) s = .next { s with result := 1 }) ∧
  (∀ s : State, exec (.crcchk 0x00 0x00 0x00) s = .next { s with result := 0 }) ∧
  (∀ s : State, exec (.crcchk 0x00 0x01 0xB0) s = .next { s with result := 1 }) ∧
  (∀ s : State, exec (.crcchk 0x00 0x01 0xB1) s = .next { s with result := 0 })

/-- R77: SUMCLR clears the accumulator and nothing else; `SUMACC` reads 0x0000_FF00 afterwards; it is idempotent; a
nonzero field makes the word illegal. -/
def Obligations.SumclrCommand : Prop :=
  (∀ a b c : Byte,
    decode (wordOf ⟨0x03, a, b, c⟩) = if a = 0 ∧ b = 0 ∧ c = 0 then .ok .sumclr else .error .fieldNotZero) ∧
  (∀ s : State, exec .sumclr s = .next { s with acc := 0 }) ∧
  (∀ s : State, sumaccWord { s with acc := 0 } = 0x0000FF00) ∧
  (∀ s : State, runCommands [.sumclr, .sumclr] s = exec .sumclr s)

/-- R78: SUMADD adds its byte modulo 256 and changes nothing else; `FCS` follows as the complement; the order of two
SUMADDs does not matter; a nonzero A or B field makes the word illegal; with the rule's corner cases and example. -/
def Obligations.SumaddCommand : Prop :=
  (∀ a b c : Byte,
    decode (wordOf ⟨0x04, a, b, c⟩) = if a = 0 ∧ b = 0 then .ok (.sumadd c) else .error .fieldNotZero) ∧
  (∀ (c : Byte) (s : State),
    exec (.sumadd c) s = .next { s with acc := BitVec.ofNat 8 ((s.acc.toNat + c.toNat) % 256) }) ∧
  (∀ s : State, (sumaccWord s).extractLsb' 8 8 = ~~~s.acc) ∧
  (∀ s : State, s.acc = 0xFF → exec (.sumadd 0x01) s = .next { s with acc := 0x00 }) ∧
  (∀ s : State, exec (.sumadd 0x00) s = .next s) ∧
  (∀ (c d : Byte) (s : State), runCommands [.sumadd c, .sumadd d] s = runCommands [.sumadd d, .sumadd c] s) ∧
  (∀ s : State, ∃ t, runCommands [.sumclr, .sumadd 0x00, .sumadd 0x03, .sumadd 0x00] s = .next t ∧
    sumaccWord t = 0x0000FC03)

/-- R73: the byte-wise algorithm is the bit-serial division by the polynomial 0x31 with the accumulator starting at
0xFF, over the 16 bits of the word, first byte first and most significant bit first (no reflection, no final XOR). -/
def Obligations.CrcIsBitSerialDivision : Prop :=
  ∀ b0 b1 : Byte, crc8 b0 b1 = (msbFirst b0 ++ msbFirst b1).foldl crcBit 0xFF

/-- R80 item 4: the CRC is affine over GF(2). -/
def Obligations.CrcIsAffine : Prop :=
  ∀ a b c d : Byte, crc8 (a ^^^ c) (b ^^^ d) = crc8 a b ^^^ crc8 c d ^^^ 0x81

/-- R80 item 5: flipping bit i of the word XORs its CRC with the listed syndrome, and no syndrome is 0. -/
def Obligations.CrcBitFlipSyndromes : Prop :=
  ∀ (x : BitVec 16) (i : Nat), i < 16 →
    crc8 ((x ^^^ (1#16 <<< i)).extractLsb' 8 8) ((x ^^^ (1#16 <<< i)).extractLsb' 0 8)
      = crc8 (x.extractLsb' 8 8) (x.extractLsb' 0 8) ^^^ syndromes.getD i 0 ∧
    syndromes.getD i 0 ≠ 0

/-- R76: the frame checksum is the complement of the sum of all bytes modulo 256, and 0xFF for the empty list. -/
def Obligations.FrameChecksumIsInvertedSum : Prop :=
  (∀ p : List Byte, (frameChecksum p).toNat = 255 - natSum p % 256) ∧ frameChecksum [] = 0xFF

/-- R80 items 1 to 3: sums wrap modulo 256; the checksum does not depend on the order of its bytes, and appending 0x00
leaves it; it is 0xFF over any all-zero list; changing one byte changes it; two changes can cancel. -/
def Obligations.FrameChecksumLaws : Prop :=
  (∀ p : List Byte, (byteSum p).toNat = natSum p % 256) ∧
  (∀ p q : List Byte, p.Perm q → frameChecksum p = frameChecksum q) ∧
  (∀ p : List Byte, frameChecksum (p ++ [0x00]) = frameChecksum p) ∧
  (∀ n : Nat, frameChecksum (List.replicate n 0x00) = 0xFF) ∧
  (∀ (p : List Byte) (i : Nat) (x : Byte), i < p.length → x ≠ byteAt p i →
    frameChecksum (p.set i x) ≠ frameChecksum p) ∧
  (∀ (x y : Byte) (p : List Byte), frameChecksum ((x + 1) :: (y - 1) :: p) = frameChecksum (x :: y :: p))

/-- R79: SUMCLR and then one SUMADD for each byte of `p` leave the sum modulo 256 in `SUMACC.ACC` and the frame checksum
of `p` in `SUMACC.FCS`, and change nothing else. -/
def Obligations.SumCommandsComputeTheChecksum : Prop :=
  ∀ (p : List Byte) (s : State),
    runCommands (.sumclr :: p.map .sumadd) s = .next { s with acc := BitVec.ofNat 8 (natSum p % 256) } ∧
    (sumaccWord { s with acc := BitVec.ofNat 8 (natSum p % 256) }).extractLsb' 8 8 = frameChecksum p

/-! ### Registers and the host interface (10_state.md, 20_memory.md) -/

/-- R13: the registers and their offsets are exactly those of the map. -/
def Obligations.RegisterMap : Prop :=
  ∀ (off : Nat) (r : Reg), regAt off = some r ↔
    (off, r) ∈ [(0x00, Reg.cmd), (0x04, .status), (0x08, .result), (0x0C, .sumacc), (0x10, .threshold), (0x14, .health),
      (0x18, .badCnt), (0x1C, .goodCnt), (0x20, .lastGoodTs), (0x40, .record 0), (0x44, .record 1), (0x48, .record 2),
      (0x4C, .record 3), (0x50, .record 4), (0x54, .record 5), (0x58, .record 6), (0x5C, .record 7), (0x60, .record 8),
      (0x64, .record 9)]

/-- R17, R33, R133: the fields of `STATUS` stand at their bits, `BUSY` is 1 exactly when a READ is in progress, reserved
bits read 0, and the outcome codes are those of the table. -/
def Obligations.StatusWordFields : Prop :=
  (∀ s : State,
    ((statusWord s).getLsbD 0 = true ↔ s.engine ≠ .idle) ∧
    (statusWord s).getLsbD 1 = s.illegal ∧
    (statusWord s).getLsbD 2 = s.overrun ∧
    (statusWord s).getLsbD 3 = s.recValid ∧
    (statusWord s).extractLsb' 4 4 = 0 ∧
    (statusWord s).extractLsb' 8 4 = resultCode s.lastResult ∧
    (statusWord s).getLsbD 12 = s.recovered ∧
    (statusWord s).extractLsb' 13 19 = 0) ∧
  resultCode .success = 0x0 ∧ resultCode (.failed .noDataAvailable) = 0x1 ∧
  resultCode (.failed .resynchronizing) = 0x2 ∧ resultCode (.failed .incompleteFrame) = 0x3 ∧
  resultCode (.failed .sensorFault) = 0x4 ∧ resultCode (.failed .checksumMismatch) = 0x5 ∧
  resultCode (.failed .framingError) = 0x6 ∧ resultCode (.failed .transactionSizeMismatch) = 0x7 ∧
  resultCode (.failed .notReady) = 0x8 ∧ resultCode .noneYet = 0xF

/-- R16, R19: the fields of `SUMACC` and `HEALTH` stand at their bits and the other bits read 0. -/
def Obligations.SumaccAndHealthWords : Prop :=
  ∀ s : State,
    (sumaccWord s).extractLsb' 0 8 = s.acc ∧
    (sumaccWord s).extractLsb' 8 8 = ~~~s.acc ∧
    (sumaccWord s).extractLsb' 16 16 = 0 ∧
    (healthWord s).getLsbD 0 = s.isHealthy ∧
    (s.linkState = .initializing → (healthWord s).extractLsb' 1 2 = 0) ∧
    (s.linkState = .healthy → (healthWord s).extractLsb' 1 2 = 1) ∧
    (s.linkState = .degraded → (healthWord s).extractLsb' 1 2 = 2) ∧
    (healthWord s).extractLsb' 3 29 = 0

/-- R14, R46: an aligned 32-bit host read of a register of the map gives its value to the host and changes nothing
else, whether or not a READ is in progress; `CMD` reads 0. -/
def Obligations.HostReadsHaveNoSideEffect : Prop :=
  ∀ (s : State) (off : Nat) (r : Reg), regAt off = some r →
    hostAccess (.read (s.cfg.baseAddr + off) 4) s
      = .next { s with hostReads := s.hostReads ++ [(off, readReg r s)] } ∧
    (r = .cmd → readReg r s = 0) ∧ (r = .status → readReg r s = statusWord s) ∧
    (r = .result → readReg r s = s.result) ∧ (r = .sumacc → readReg r s = sumaccWord s) ∧
    (r = .threshold → readReg r s = s.threshold) ∧ (r = .health → readReg r s = healthWord s) ∧
    (r = .badCnt → readReg r s = s.badCnt) ∧ (r = .goodCnt → readReg r s = s.goodCnt) ∧
    (r = .lastGoodTs → readReg r s = s.lastGoodTs) ∧
    (∀ i : Fin 10, r = .record i → s.recValid = true → readReg r s = s.record[i])

/-- R17, R18, R46: while idle, a host write to `STATUS` clears the sticky bits written 1 and nothing else, and a host
write to `THRESHOLD` stores all 32 bits and changes nothing else. -/
def Obligations.HostWritesWhileIdle : Prop :=
  ∀ (s : State) (v : Word), s.busy = false →
    hostAccess (.write (s.cfg.baseAddr + 0x04) 4 v) s
      = .next { s with
          illegal := if v.getLsbD 1 then false else s.illegal
          overrun := if v.getLsbD 2 then false else s.overrun } ∧
    hostAccess (.write (s.cfg.baseAddr + 0x10) 4 v) s = .next { s with threshold := v }

/-- R47, R136: during a READ a host write to `CMD`, `STATUS` or `THRESHOLD` is dropped, whatever its value (an illegal
word included), and sets `STATUS.OVERRUN`; nothing else changes. -/
def Obligations.BusyWritesAreDropped : Prop :=
  ∀ (s : State) (off : Nat) (v : Word), s.busy = true → off = 0x00 ∨ off = 0x04 ∨ off = 0x10 →
    hostAccess (.write (s.cfg.baseAddr + off) 4 v) s = .next { s with overrun := true }

/-- R44, R45, R139: which host accesses inside the block's window raise which host fault; alignment and width are
checked first, and no access is refused. -/
def Obligations.HostFaultsExactly : Prop :=
  ∀ (s : State) (off size : Nat) (v : Word), off < 0x80 →
    (hostAccess (.read (s.cfg.baseAddr + off) size) s = .fault .misalignedOrNarrow ↔ size ≠ 4 ∨ off % 4 ≠ 0) ∧
    (hostAccess (.read (s.cfg.baseAddr + off) size) s = .fault .unmappedOrReadonly ↔
      size = 4 ∧ off % 4 = 0 ∧ ((0x24 ≤ off ∧ off < 0x40) ∨ 0x68 ≤ off)) ∧
    (hostAccess (.write (s.cfg.baseAddr + off) size v) s = .fault .misalignedOrNarrow ↔ size ≠ 4 ∨ off % 4 ≠ 0) ∧
    (hostAccess (.write (s.cfg.baseAddr + off) size v) s = .fault .unmappedOrReadonly ↔
      size = 4 ∧ off % 4 = 0 ∧ off ≠ 0x00 ∧ off ≠ 0x04 ∧ off ≠ 0x10) ∧
    (∀ e, hostAccess (.read (s.cfg.baseAddr + off) size) s ≠ .refused e) ∧
    (∀ e, hostAccess (.write (s.cfg.baseAddr + off) size v) s ≠ .refused e)

/-- R72 gives `POLL` as a loop of host reads of `STATUS` that ends once `BUSY` reads 0. The form of that loop stated
here is the model's choice (log entry 14): `POLL` is one host operation, a turn of the host is one round of it, every
round's read is recorded, and the operation stays next while `BUSY` reads 1 and is taken away once it reads 0. The turns
are log entry 4. -/
def Obligations.PollRepeatsWhileBusy : Prop :=
  ∀ (s : State) (ops : List HostOp), (nextTurn s).1 = .host → s.program = .poll :: ops →
    step s = .next { s with
      sched := s.sched.tail
      hostReads := s.hostReads ++ [(0x04, statusWord s)]
      program := if (statusWord s).getLsbD 0 then s.program else ops }

/-- R26 and I-3 of 93_implementation_defined.md: while `REC_VALID = 0` a host sees at `RECORD[i]` the draw fixed at the
last reset, and every step that is no reset and makes no record valid leaves it as it is. The draw is free: the
statement holds for every value of it. That a counter of resets numbers the draws is the model's choice (log entry 2).
-/
def Obligations.UnreadRecordIsOneDraw : Prop :=
  ∀ (s t : State) (i : Fin 10), step s = .next t → (nextTurn s).1 ≠ .reset → t.recValid = false →
    readReg (.record i) s = Config.recordDraw s.resets i.val ∧ readReg (.record i) t = readReg (.record i) s

/-! ### Reset and INIT (70_reset_and_hazards.md, 43_link.md) -/

/-- The reset values of R150, as a host reads every register, and the sequencer idle; both for the reset input and for
the machine right after power-up, at every clock time. The values are the rule's. The model's choices are these: that
the unspecified `RECORD` (I-3) reads a free draw numbered by a counter of resets (log entry 2), and that power-up is
`State.resetAt`, for every parameter and clock time (log entry 1) and with an empty environment (log entry 10). -/
def Obligations.ResetRegisterValues : Prop :=
  (∀ s t : State, (t = s.resetBlock ∨ ∃ p, t = State.resetAt p s.now) →
    phaseOf t.engine = .idle ∧ readReg .status t = 0x00000F00 ∧ readReg .result t = 0 ∧
    readReg .sumacc t = 0x0000FF00 ∧ readReg .threshold t = 1200000 ∧ readReg .health t = 0 ∧
    readReg .badCnt t = 0 ∧ readReg .goodCnt t = 1 ∧ readReg .lastGoodTs t = s.now ∧
    ∀ i : Fin 10, readReg (.record i) t = Config.recordDraw t.resets i.val)

/-- R150, R151: the STEP on a reset turn answers next with the block reset: every register reads its reset value, the
sequencer is idle (so a READ in progress is abandoned), and the receive queue, the transmit stream, the bus, the clock
and the parameters are as they were. The model's choices are these: the turns (log entry 4); that a reset is asserted
and released in one turn, the clock sampled in it (log entry 15); that the host's operations, what it has read and the
peer's settled answers survive it (log entry 10); and the numbering of the free draws that `RECORD` reads (log entry 2).
-/
def Obligations.ResetAbandonsTheRead : Prop :=
  ∀ (s : State) (ts : List Turn), s.sched = .reset :: ts →
    ∃ t, step s = .next t ∧ t = { s with sched := ts }.resetBlock ∧
      t = { s with
        illegal := false, overrun := false, recValid := false, lastResult := .noneYet, recovered := false, result := 0
        acc := 0, threshold := 1200000, linkState := .initializing, isHealthy := false, badCnt := 0, goodCnt := 1
        lastGoodTs := s.now, record := t.record, engine := .idle, resets := s.resets + 1, sched := ts } ∧
      phaseOf t.engine = .idle ∧ readReg .status t = 0x00000F00 ∧ readReg .result t = 0 ∧
      readReg .sumacc t = 0x0000FF00 ∧ readReg .threshold t = 1200000 ∧ readReg .health t = 0 ∧
      readReg .badCnt t = 0 ∧ readReg .goodCnt t = 1 ∧ readReg .lastGoodTs t = s.now ∧
      (∀ i : Fin 10, readReg (.record i) t = Config.recordDraw (s.resets + 1) i.val) ∧
      t.rx = s.rx ∧ t.tx = s.tx ∧ t.busLog = s.busLog ∧ t.busAnswers = s.busAnswers ∧ t.draws = s.draws ∧
      t.now = s.now ∧ t.program = s.program ∧ t.hostReads = s.hostReads ∧ t.sched = ts ∧ t.cfg = s.cfg

/-- R121: INIT is `0x3000_0000`, any nonzero operand field makes the word illegal, and it writes `HEALTH`, `BAD_CNT`,
`GOOD_CNT` and `LAST_GOOD_TS` and nothing else; with the rule's example. -/
def Obligations.InitCommand : Prop :=
  (∀ a b c : Byte,
    decode (wordOf ⟨0x30, a, b, c⟩) = if a = 0 ∧ b = 0 ∧ c = 0 then .ok .init else .error .fieldNotZero) ∧
  (∀ s : State, exec .init s = .next { s with
    linkState := .initializing, isHealthy := false, badCnt := 0, goodCnt := 1, lastGoodTs := s.now }) ∧
  (∀ s : State, s.now = 500 → ∃ t, exec .init s = .next t ∧ readReg .health t = 0 ∧ readReg .badCnt t = 0 ∧
    readReg .goodCnt t = 1 ∧ readReg .lastGoodTs t = 500)

/-- R152: INIT sets the link-health registers to the values a reset at the same moment sets, and keeps `THRESHOLD`,
`RECORD`, `STATUS`, `RESULT` and `SUMACC`. -/
def Obligations.InitSetsHealthLikeReset : Prop :=
  ∀ s : State, ∃ t, exec .init s = .next t ∧
    readReg .health t = readReg .health s.resetBlock ∧ readReg .badCnt t = readReg .badCnt s.resetBlock ∧
    readReg .goodCnt t = readReg .goodCnt s.resetBlock ∧ readReg .lastGoodTs t = readReg .lastGoodTs s.resetBlock ∧
    readReg .threshold t = readReg .threshold s ∧ (∀ i, readReg (.record i) t = readReg (.record i) s) ∧
    readReg .status t = readReg .status s ∧ readReg .result t = readReg .result s ∧
    readReg .sumacc t = readReg .sumacc s

/-! ### Serial Frame Codec (41_serial_codec.md) -/

/-- R81: the de-stuffing substitution, malformed for every byte but the four. -/
def Obligations.UnescTable : Prop :=
  unescByte 0x5E = some 0x7E ∧ unescByte 0x5D = some 0x7D ∧ unescByte 0x31 = some 0x11 ∧ unescByte 0x33 = some 0x13 ∧
  ∀ y : Byte, y ∉ [0x5E, 0x5D, 0x31, 0x33] → unescByte y = none

/-- R82: the stuffing function on a byte and on a list, and its inverse on the four reserved bytes. -/
def Obligations.StuffTable : Prop :=
  (∀ b : Byte, b ∈ [0x7E, 0x7D, 0x11, 0x13] →
    stuffByte b = [0x7D, b ^^^ 0x20] ∧ unescByte (b ^^^ 0x20) = some b) ∧
  (∀ b : Byte, b ∉ [0x7E, 0x7D, 0x11, 0x13] → stuffByte b = [b]) ∧
  (stuffBytes [] = []) ∧ (∀ (b : Byte) (p : List Byte), stuffBytes (b :: p) = stuffByte b ++ stuffBytes p)

/-- R83: STUFF writes the wire length to bits 17:16 of `RESULT`, the first wire byte to bits 15:8 and the second or 0
to bits 7:0, and nothing else; a nonzero A or B field makes the word illegal; with the rule's corner cases. -/
def Obligations.StuffCommand : Prop :=
  (∀ a b c : Byte,
    decode (wordOf ⟨0x05, a, b, c⟩) = if a = 0 ∧ b = 0 then .ok (.stuff c) else .error .fieldNotZero) ∧
  (∀ (c : Byte) (s : State), ∃ r : Word, exec (.stuff c) s = .next { s with result := r } ∧
    r.extractLsb' 18 14 = 0 ∧ r.extractLsb' 16 2 = BitVec.ofNat 2 (stuffByte c).length ∧
    r.extractLsb' 8 8 = byteAt (stuffByte c) 0 ∧ r.extractLsb' 0 8 = byteAt (stuffByte c) 1) ∧
  (∀ c : Byte, (stuffByte c).length = 2 ↔ c ∈ [0x7E, 0x7D, 0x11, 0x13]) ∧
  (∀ c : Byte, (stuffByte c).length = 1 ∨ (stuffByte c).length = 2) ∧
  (∀ s : State, exec (.stuff 0x7E) s = .next { s with result := 0x00027D5E }) ∧
  (∀ s : State, exec (.stuff 0x41) s = .next { s with result := 0x00014100 }) ∧
  (∀ s : State, exec (.stuff 0x5E) s = .next { s with result := 0x00015E00 }) ∧
  (∀ s : State, exec (.stuff 0x00) s = .next { s with result := 0x00010000 })

/-- R84: UNESC writes the byte an escape pair stands for, zero-extended, or 0x100 when it is malformed, to `RESULT` and
nothing else; a nonzero A or B field makes the word illegal; with the rule's corner cases and examples. -/
def Obligations.UnescCommand : Prop :=
  (∀ a b c : Byte,
    decode (wordOf ⟨0x06, a, b, c⟩) = if a = 0 ∧ b = 0 then .ok (.unesc c) else .error .fieldNotZero) ∧
  (∀ (c x : Byte) (s : State), unescByte c = some x →
    exec (.unesc c) s = .next { s with result := x.setWidth 32 }) ∧
  (∀ (c : Byte) (s : State), unescByte c = none → exec (.unesc c) s = .next { s with result := 0x00000100 }) ∧
  (∀ s : State, exec (.unesc 0x31) s = .next { s with result := 0x00000011 }) ∧
  (∀ s : State, exec (.unesc 0x00) s = .next { s with result := 0x00000100 }) ∧
  (∀ s : State, exec (.unesc 0x7E) s = .next { s with result := 0x00000100 }) ∧
  (∀ s : State, exec (.unesc 0x7D) s = .next { s with result := 0x00000100 }) ∧
  (∀ s : State, exec (.unesc 0x5E) s = .next { s with result := 0x0000007E })

/-- R63, R64, R85 to R89: on the serial link PWRON, PWROFF, CLEAN and REQDATA append their frame to the transmit stream
and change nothing else. PWRON's frame is `SerFrame(start)` for whatever start data the block is built with: the
markers, the address 0x00, the command 0x00, the number of data bytes, the data unstuffed, and the frame checksum of
everything between START and the checksum; with the rule's bytes for the default start data. Beyond 255 data bytes,
where R63's LEN has no value, it is the count modulo 256 (log entry 9). -/
def Obligations.SerialCommandsSendTheirFrame : Prop :=
  ∀ s : State, s.cfg.mode = .serial →
    exec .pwron s = .next { s with tx := s.tx ++ serFrame s.cfg .start } ∧
    serFrame s.cfg .start = [0x7E, 0x00, 0x00, BitVec.ofNat 8 s.cfg.serialStartData.length] ++ s.cfg.serialStartData
      ++ [frameChecksum (frameBody 0x00 s.cfg.serialStartData), 0x7E] ∧
    (s.cfg.serialStartData.length ≤ 255 →
      (BitVec.ofNat 8 s.cfg.serialStartData.length).toNat = s.cfg.serialStartData.length ∧
      (frameChecksum (frameBody 0x00 s.cfg.serialStartData)).toNat
        = 255 - (0x00 + 0x00 + s.cfg.serialStartData.length + natSum s.cfg.serialStartData) % 256) ∧
    (s.cfg.serialStartData = [0x02, 0x01] → exec .pwron s
      = .next { s with tx := s.tx ++ [0x7E, 0x00, 0x00, 0x02, 0x02, 0x01, 0xFA, 0x7E] }) ∧
    exec .pwroff s = .next { s with tx := s.tx ++ [0x7E, 0x00, 0x01, 0x00, 0xFE, 0x7E] } ∧
    exec .clean s = .next { s with tx := s.tx ++ [0x7E, 0x00, 0x56, 0x00, 0xA9, 0x7E] } ∧
    exec .reqdata s = .next { s with tx := s.tx ++ [0x7E, 0x00, 0x03, 0x00, 0xFC, 0x7E] }

/-- R63: the form of a command frame: the markers, the address 0x00, the number of data bytes, the data as they stand,
and the complement of the sum modulo 256 of everything between START and the checksum. -/
def Obligations.CommandFrameForm : Prop :=
  ∀ (cmd : Byte) (data : List Byte), data.length ≤ 255 →
    ∃ len chk : Byte, commandFrame cmd data = [0x7E, 0x00, cmd, len] ++ data ++ [chk, 0x7E] ∧
      len.toNat = data.length ∧ chk.toNat = 255 - (0x00 + cmd.toNat + len.toNat + natSum data) % 256

/-! ### Bus Transaction Verifier (42_bus_codec.md) -/

/-- R67, R68, R100: on the bus PWRON, PWROFF, CLEAN and REQDATA make one write transaction at the sensor's device
address, pointer most significant byte first, and change nothing else; only PWRON may carry a data word, with its
CRC-8 behind it. -/
def Obligations.BusCommandsWriteTheirPointer : Prop :=
  ∀ s : State, s.cfg.mode = .bus →
    (s.cfg.busStartData = none →
      exec .pwron s = .next { s with busLog := s.busLog ++ [.write s.cfg.busDevAddr [0x00, 0x10]] }) ∧
    (∀ d0 d1 : Byte, s.cfg.busStartData = some (d0, d1) → exec .pwron s
      = .next { s with busLog := s.busLog ++ [.write s.cfg.busDevAddr [0x00, 0x10, d0, d1, crc8 d0 d1]] }) ∧
    exec .pwroff s = .next { s with busLog := s.busLog ++ [.write s.cfg.busDevAddr [0x01, 0x04]] } ∧
    exec .clean s = .next { s with busLog := s.busLog ++ [.write s.cfg.busDevAddr [0x56, 0x07]] } ∧
    exec .reqdata s = .next { s with busLog := s.busLog ++ [.write s.cfg.busDevAddr [0x02, 0x02]] }

/-- R69, R102: the only answer that passes the readiness check is `00 01 B0`. -/
def Obligations.OnlyOneReadyAnswer : Prop :=
  ∀ r : List Byte, busReady r = true ↔ r = [0x00, 0x01, 0xB0]

/-- R101, R102, R104 to R106, R108: a bus READ from its start, nothing else taking a turn, for the answers `r` and `d`
the peer has settled. An answer other than `00 01 B0` ends it with NotReady after one transaction. Otherwise there are
two transactions, and the READ ends with TransactionSizeMismatch, with ChecksumMismatch, or with the commit of a
record each of whose fields spans two groups. -/
def Obligations.BusReadOutcomes : Prop :=
  ∀ (s : State) (r d : List Byte) (rest : List (List Byte)),
    s.cfg.mode = .bus → s.sched = [] → s.engine = .decode .ready → s.busAnswers = r :: d :: rest →
    (r ≠ [0x00, 0x01, 0xB0] → step s = .next (endFailed .notReady { s with
      busLog := s.busLog ++ [.read s.cfg.busDevAddr 0x0202 3 r], busAnswers := d :: rest })) ∧
    (r = [0x00, 0x01, 0xB0] → d.length ≠ 60 → runFor 2 s = .next (endFailed .transactionSizeMismatch { s with
      busLog := s.busLog ++ [.read s.cfg.busDevAddr 0x0202 3 r, .read s.cfg.busDevAddr s.cfg.busAddrData 60 d]
      busAnswers := rest })) ∧
    (r = [0x00, 0x01, 0xB0] → d.length = 60 →
      (∃ g < 20, crc8 (byteAt d (3 * g)) (byteAt d (3 * g + 1)) ≠ byteAt d (3 * g + 2)) →
      runFor 2 s = .next (endFailed .checksumMismatch { s with
        busLog := s.busLog ++ [.read s.cfg.busDevAddr 0x0202 3 r, .read s.cfg.busDevAddr s.cfg.busAddrData 60 d]
        busAnswers := rest })) ∧
    (r = [0x00, 0x01, 0xB0] → d.length = 60 →
      (∀ g < 20, crc8 (byteAt d (3 * g)) (byteAt d (3 * g + 1)) = byteAt d (3 * g + 2)) →
      ∃ t, runFor 3 s = .next t ∧
        t = { s with
          busLog := s.busLog ++ [.read s.cfg.busDevAddr 0x0202 3 r, .read s.cfg.busDevAddr s.cfg.busAddrData 60 d]
          busAnswers := rest, record := t.record, recValid := true, badCnt := 0
          goodCnt := sat32 (s.goodCnt.toNat + 1), lastGoodTs := s.now, linkState := .healthy, isHealthy := true
          lastResult := .success, recovered := false, engine := .idle } ∧
        ∀ (i : Nat) (h : i < 10), t.record[i] = byteAt d (6 * i) ++ byteAt d (6 * i + 1) ++ byteAt d (6 * i + 3)
          ++ byteAt d (6 * i + 4))

/-- R109: every single-bit change of a good 60-byte data answer ends the decode with ChecksumMismatch, and every answer
of another length with TransactionSizeMismatch. -/
def Obligations.BusSingleBitErrorsAreDetected : Prop :=
  (∀ d p : List Byte, busVerify d = .done p → ∀ i < 60, ∀ j < 8,
    busVerify (d.set i (byteAt d i ^^^ (1#8 <<< j))) = .failed .checksumMismatch) ∧
  (∀ d : List Byte, d.length ≠ 60 → busVerify d = .failed .transactionSizeMismatch)

/-! ### READ, the engine and link health (43_link.md, 41_serial_codec.md) -/

/-- R111, R113: READ moves the sequencer to `DECODE`, at the start of its mode's decode, and changes nothing else;
`BUSY` reads 1 from then on. That the engine carries the READ on in later steps is the model's form (log entry 8). -/
def Obligations.ReadStartsTheDecode : Prop :=
  ∀ s : State,
    (s.cfg.mode = .serial → exec .read s = .next { s with engine := .decode .look }) ∧
    (s.cfg.mode = .bus → exec .read s = .next { s with engine := .decode .ready }) ∧
    ∀ t, exec .read s = .next t → phaseOf t.engine = .decode ∧ (statusWord t).getLsbD 0 = true

/-- R90, R92 to R97: the engine, one port operation at a time and nothing else taking a turn, ends the serial decode of
every receive queue as `SerialDecode()` does, with the same bytes consumed; where `SerialDecode()` waits for bytes,
the engine comes to a hold with `BUSY = 1` and the queue empty. That a hold is a step to the same state is the model's
choice (log entry 11), as are the turns (log entry 4) and the unit of an engine step (log entry 8). -/
def Obligations.SerialEngineRefinesSerialDecode : Prop :=
  ∀ s : State, s.cfg.mode = .serial → s.sched = [] → s.engine = .decode .look →
    match serialDecodeRef s.rx with
    | .ok p rest => ∃ n, runFor n s = .next { s with rx := rest, engine := .commit (.ok p s.now) }
    | .fail k rest => ∃ n, runFor n s = .next (endFailed k { s with rx := rest })
    | .hold => ∃ n t, runFor n s = .next t ∧ t.busy = true ∧ t.rx = [] ∧ KeepsRegisters s t ∧ step t = .next t

/-- R99, R113, R115: for every 40-byte payload and every header byte ADDR, CMD and LEN, a READ whose queue starts with
the response frame ends in `len(stuffed(p)) + 9` engine steps with the record committed, the counters and link state of
a good read, and exactly the frame's bytes consumed. -/
def Obligations.GoodFrameReadCommits : Prop :=
  ∀ (s : State) (adr cmd len : Byte) (p rest : List Byte), s.cfg.mode = .serial → s.sched = [] →
    s.engine = .decode .look → p.length = 40 → s.rx = responseFrame adr cmd len p ++ rest →
    ∃ t, runFor ((stuffBytes p).length + 9) s = .next t ∧
      t = { s with
        rx := rest, record := t.record, recValid := true, badCnt := 0, goodCnt := sat32 (s.goodCnt.toNat + 1)
        lastGoodTs := s.now, linkState := .healthy, isHealthy := true, lastResult := .success, recovered := false
        engine := .idle } ∧
      ∀ (i : Nat) (h : i < 10), t.record[i] = byteAt p (4 * i) ++ byteAt p (4 * i + 1) ++ byteAt p (4 * i + 2)
        ++ byteAt p (4 * i + 3)

/-- Where the engine holds, after R157: an engine step changes nothing exactly while idle, at a pop with the receive
queue empty, or in a settle wait that is not over; and in a state of the invariant no header pop holds (R93). That a hold
is an engine step to the same state is the model's choice (log entry 11), and the invariant is the model's inference
(log entry 16). -/
def Obligations.EngineHoldsExactly : Prop :=
  (∀ s : State, engineTurn s = s ↔ s.engine = .idle ∨ (popsNext s.engine = true ∧ s.rx = []) ∨
    ∃ g k t0, s.engine = .wait g k t0 ∧ (s.now - t0).toNat < (stageSettle s.cfg g).toNat) ∧
  (∀ (s : State) (h : List Byte), Inv s → s.engine = .decode (.header h) → engineTurn s ≠ s)

/-- R27, R47, R119: a step during a READ that is neither its commit nor a reset keeps every register but `OVERRUN`,
which only a host's turn can set. -/
def Obligations.RegistersKeptUntilCommit : Prop :=
  ∀ s t : State, s.busy = true → step s = .next t → (nextTurn s).1 ≠ .reset →
    ((nextTurn s).1 = .engine → phaseOf s.engine ≠ .commit) →
    KeepsRegisters s t ∧ ((nextTurn s).1 ≠ .host → t.overrun = s.overrun)

/-- R115: the commit of a successful READ, from every earlier link state, with `t1` the clock when the decode ended. -/
def Obligations.SuccessfulReadCommit : Prop :=
  (∀ (p : List Byte) (s : State), afterDecode (.done p) s = { s with engine := .commit (.ok p s.now) }) ∧
  (∀ (p : List Byte) (t1 : Word) (s : State), s.engine = .commit (.ok p t1) →
    ∃ t, engineTurn s = t ∧
      t = { s with
        record := t.record, recValid := true, badCnt := 0, goodCnt := t.goodCnt, lastGoodTs := t1
        linkState := .healthy, isHealthy := true, lastResult := .success, recovered := false, engine := .idle } ∧
      t.goodCnt.toNat = min (s.goodCnt.toNat + 1) 0xFFFFFFFF ∧
      ∀ (i : Nat) (h : i < 10), t.record[i] = byteAt p (4 * i) ++ byteAt p (4 * i + 1) ++ byteAt p (4 * i + 2)
        ++ byteAt p (4 * i + 3))

/-- R116, R118: the commit of a failed READ: the saturating count, the degradation at 5 from any state, and only then a
changed link state; a recovery's completion time, if one ran, is the only change of `LAST_GOOD_TS`. -/
def Obligations.FailedReadCommit : Prop :=
  ∀ (k : FailKind) (t2 : Option Word) (s : State), s.engine = .commit (.fail k t2) →
    ∃ t, engineTurn s = t ∧
      t = { s with
        badCnt := t.badCnt, linkState := t.linkState, isHealthy := t.isHealthy, lastResult := .failed k
        lastGoodTs := t.lastGoodTs, recovered := t2.isSome, engine := .idle } ∧
      t.badCnt.toNat = min (s.badCnt.toNat + 1) 0xFFFFFFFF ∧
      (5 ≤ s.badCnt.toNat + 1 → t.linkState = .degraded ∧ t.isHealthy = false) ∧
      (s.badCnt.toNat + 1 < 5 → t.linkState = s.linkState ∧ t.isHealthy = s.isHealthy) ∧
      (t2 = none → t.lastGoodTs = s.lastGoodTs) ∧ (∀ x, t2 = some x → t.lastGoodTs = x)

/-- R117: on every failed decode, and only then, the time since the last good read is taken modulo 2^32; the recovery
sequence starts exactly when it is strictly greater than `THRESHOLD`, whatever the failure count, and the READ goes to
its commit otherwise; a successful decode never recovers. -/
def Obligations.StalenessDecidesRecovery : Prop :=
  (∀ (k : FailKind) (s : State), s.threshold.toNat < (s.now.toNat + 2 ^ 32 - s.lastGoodTs.toNat) % 2 ^ 32 →
    endFailed k s = { s with engine := .recover .off k }) ∧
  (∀ (k : FailKind) (s : State), (s.now.toNat + 2 ^ 32 - s.lastGoodTs.toNat) % 2 ^ 32 ≤ s.threshold.toNat →
    endFailed k s = { s with engine := .commit (.fail k none) }) ∧
  (∀ (k : FailKind) (s : State), afterDecode (.failed k) s = endFailed k s) ∧
  (∀ (k : FailKind) (s : State), s.engine = .discard k → engineTurn s = endFailed k { s with rx := s.rx.drop 60 }) ∧
  (∀ (p : List Byte) (s : State), afterDecode (.done p) s = { s with engine := .commit (.ok p s.now) }) ∧
  (∀ (k : FailKind) (s : State), s.threshold = 0xFFFFFFFF →
    endFailed k s = { s with engine := .commit (.fail k none) })

/-- R118: a recovery sends power-off, power-on and clean once each, in that order, each followed by its wait, and
commits with the time of its completion, when the clock advances in each wait by at least its settle time. -/
def Obligations.RecoverySequence : Prop :=
  ∀ (s : State) (k : FailKind) (dOff dOn dClean : Word) (rest : List Turn),
    s.engine = .recover .off k →
    s.sched = [.engine, .tick dOff, .engine, .engine, .tick dOn, .engine, .engine, .tick dClean, .engine, .engine]
      ++ rest →
    s.cfg.tSettleOff ≤ dOff → s.cfg.tSettleOn ≤ dOn → s.cfg.tSettleClean ≤ dClean →
    ∃ t, runFor 10 s = .next t ∧
      t = { s with
        tx := t.tx, busLog := t.busLog, now := s.now + dOff + dOn + dClean, sched := rest, badCnt := t.badCnt
        linkState := t.linkState, isHealthy := t.isHealthy, lastResult := .failed k
        lastGoodTs := s.now + dOff + dOn + dClean, recovered := true, engine := .idle } ∧
      t.badCnt.toNat = min (s.badCnt.toNat + 1) 0xFFFFFFFF ∧
      (s.cfg.mode = .serial → t.busLog = s.busLog ∧
        t.tx = s.tx ++ (serFrame s.cfg .stop ++ serFrame s.cfg .start ++ serFrame s.cfg .clean)) ∧
      (s.cfg.mode = .bus → t.tx = s.tx ∧
        t.busLog = s.busLog ++ [.write s.cfg.busDevAddr [0x01, 0x04],
          .write s.cfg.busDevAddr ([0x00, 0x10] ++ busData s.cfg .start), .write s.cfg.busDevAddr [0x56, 0x07]])

/-- R33, R114: the sequencer leaves `IDLE` only for `DECODE`, moves forward through the phases of a READ, and returns to
`IDLE` only from `COMMIT` or by reset. -/
def Obligations.PhasesMoveForward : Prop :=
  ∀ s t : State, step s = .next t → (nextTurn s).1 ≠ .reset →
    (s.busy = false → t.busy = true → phaseOf t.engine = .decode ∧ acceptedCommand s = some .read) ∧
    (s.busy = true → t.busy = true → phaseRank (phaseOf s.engine) ≤ phaseRank (phaseOf t.engine)) ∧
    (s.busy = true → t.busy = false → phaseOf s.engine = .commit)

/-- R122: from a failure count of 0, k failed READs leave the count k (saturating); up to 4 leave the link state as it
was, 5 or more leave it Degraded and not healthy; one successful READ then gives count 0 and Healthy. -/
def Obligations.FailureStreak : Prop :=
  ∀ (fs : List (FailKind × Option Word)) (s : State), s.badCnt = 0 →
    (commitFails fs s).badCnt.toNat = min fs.length 0xFFFFFFFF ∧
    (fs.length ≤ 4 → (commitFails fs s).linkState = s.linkState ∧ (commitFails fs s).isHealthy = s.isHealthy) ∧
    (5 ≤ fs.length → (commitFails fs s).linkState = .degraded ∧ (commitFails fs s).isHealthy = false) ∧
    (commitFails fs s).goodCnt = s.goodCnt ∧ (commitFails fs s).record = s.record ∧
    ∀ p t1, (commitOk p t1 (commitFails fs s)).badCnt = 0 ∧ (commitOk p t1 (commitFails fs s)).linkState = .healthy ∧
      (commitOk p t1 (commitFails fs s)).isHealthy = true

/-! ### The whole machine -/

/-- R20, R22, R27, R33, R120, R133: every step keeps the invariant, from every state in which it holds. What `Inv` says
beyond these rules is the model's inference (log entry 16). -/
def Obligations.EveryStepKeepsTheInvariant : Prop :=
  ∀ s t : State, Inv s → step s = .next t → Inv t

/-- R150: the invariant (log entry 16) holds right after reset, for every construction parameter and every clock time.
`State.reset` itself is built with the parameters of log entry 1. -/
def Obligations.ResetHasTheInvariant : Prop :=
  (∀ (p : Params) (now : Word), Inv (State.resetAt p now)) ∧ Inv State.reset

/-- R134, R139: while every remaining operation of the host is legal, no step faults, and the operations that remain
are legal again. -/
def Obligations.LegalHostNeverFaults : Prop :=
  ∀ s : State, Safe s → ∃ t, step s = .next t ∧ Safe t

/-- R134, R140, R141: no step refuses, and a step faults only on the host's turn, at an access that is not legal. -/
def Obligations.OnlyIllegalAccessesStop : Prop :=
  (∀ (s : State) (e : Refusal), step s ≠ .refused e) ∧
  (∀ (s : State) (e : Fault), step s = .fault e →
    (nextTurn s).1 = .host ∧ ∃ a ops, s.program = .access a :: ops ∧ a.legal s.cfg = false)

/-- R32: `MODE` and the other construction parameters are constant. -/
def Obligations.ParametersNeverChange : Prop :=
  ∀ s t : State, step s = .next t → t.cfg = s.cfg

/-- R31, R41, R42, R49: nothing sent or logged is taken back, the block only removes bytes from the head of the receive
queue and the peer only appends, and only a turn of the clock moves `now`. -/
def Obligations.StreamsOnlyGrow : Prop :=
  ∀ s t : State, step s = .next t →
    (∃ bs, t.tx = s.tx ++ bs) ∧ (∃ txs, t.busLog = s.busLog ++ txs) ∧ (∃ rs, t.hostReads = s.hostReads ++ rs) ∧
    (∃ n bs, t.rx = s.rx.drop n ++ bs ∧ ((nextTurn s).1 ≠ .peer bs → bs = [])) ∧
    (t.now = s.now ∨ ∃ d, (nextTurn s).1 = .tick d ∧ t.now = s.now + d)

/-- R34: in serial mode no bus transaction is made, and in bus mode nothing is sent on or taken from the serial
streams. -/
def Obligations.PortsOfTheMode : Prop :=
  ∀ s t : State, Inv s → step s = .next t →
    (s.cfg.mode = .serial → t.busLog = s.busLog ∧ t.draws = s.draws) ∧
    (s.cfg.mode = .bus → t.tx = s.tx ∧ ∃ bs, t.rx = s.rx ++ bs)

/-- R15, R16: only CRC8, CRCCHK, STUFF and UNESC (and reset) change `RESULT`; only SUMCLR and SUMADD (and reset) change
`SUMACC`. -/
def Obligations.WritersOfResultAndSumacc : Prop :=
  ∀ s t : State, step s = .next t → (nextTurn s).1 ≠ .reset →
    (t.result ≠ s.result → ∃ i, acceptedCommand s = some i ∧
      ((∃ a b, i = .crc8 a b) ∨ (∃ a b c, i = .crcchk a b c) ∨ (∃ c, i = .stuff c) ∨ (∃ c, i = .unesc c))) ∧
    (t.acc ≠ s.acc → ∃ i, acceptedCommand s = some i ∧ (i = .sumclr ∨ ∃ c, i = .sumadd c))

/-- R21 to R23: `GOOD_CNT` decreases only by INIT or reset, and the link-health registers change only at a READ's
commit, by INIT or by reset. -/
def Obligations.WritersOfLinkHealth : Prop :=
  ∀ s t : State, step s = .next t → (nextTurn s).1 ≠ .reset → acceptedCommand s ≠ some .init →
    s.goodCnt.toNat ≤ t.goodCnt.toNat ∧
    (phaseOf s.engine ≠ .commit → t.goodCnt = s.goodCnt ∧ t.badCnt = s.badCnt ∧ t.lastGoodTs = s.lastGoodTs ∧
      t.linkState = s.linkState ∧ t.isHealthy = s.isHealthy ∧ t.record = s.record)
end

