-- ==== Sys2Proof/Laws/State.lean ====
section
/-! SUPPORT. One lemma per field and named update of `State`: what the field holds after the update. -/

namespace Sys2Proof.Machine

/-! ### `State.setResult` -/

@[simp] theorem State.setResult_cfg (s : State) (v : Word) : (s.setResult v).cfg = s.cfg := rfl
@[simp] theorem State.setResult_illegal (s : State) (v : Word) : (s.setResult v).illegal = s.illegal := rfl
@[simp] theorem State.setResult_overrun (s : State) (v : Word) : (s.setResult v).overrun = s.overrun := rfl
@[simp] theorem State.setResult_recValid (s : State) (v : Word) : (s.setResult v).recValid = s.recValid := rfl
@[simp] theorem State.setResult_lastResult (s : State) (v : Word) : (s.setResult v).lastResult = s.lastResult := rfl
@[simp] theorem State.setResult_recovered (s : State) (v : Word) : (s.setResult v).recovered = s.recovered := rfl
@[simp] theorem State.setResult_result (s : State) (v : Word) : (s.setResult v).result = v := rfl
@[simp] theorem State.setResult_acc (s : State) (v : Word) : (s.setResult v).acc = s.acc := rfl
@[simp] theorem State.setResult_threshold (s : State) (v : Word) : (s.setResult v).threshold = s.threshold := rfl
@[simp] theorem State.setResult_linkState (s : State) (v : Word) : (s.setResult v).linkState = s.linkState := rfl
@[simp] theorem State.setResult_isHealthy (s : State) (v : Word) : (s.setResult v).isHealthy = s.isHealthy := rfl
@[simp] theorem State.setResult_badCnt (s : State) (v : Word) : (s.setResult v).badCnt = s.badCnt := rfl
@[simp] theorem State.setResult_goodCnt (s : State) (v : Word) : (s.setResult v).goodCnt = s.goodCnt := rfl
@[simp] theorem State.setResult_lastGoodTs (s : State) (v : Word) : (s.setResult v).lastGoodTs = s.lastGoodTs := rfl
@[simp] theorem State.setResult_record (s : State) (v : Word) : (s.setResult v).record = s.record := rfl
@[simp] theorem State.setResult_engine (s : State) (v : Word) : (s.setResult v).engine = s.engine := rfl
@[simp] theorem State.setResult_rx (s : State) (v : Word) : (s.setResult v).rx = s.rx := rfl
@[simp] theorem State.setResult_tx (s : State) (v : Word) : (s.setResult v).tx = s.tx := rfl
@[simp] theorem State.setResult_busLog (s : State) (v : Word) : (s.setResult v).busLog = s.busLog := rfl
@[simp] theorem State.setResult_busAnswers (s : State) (v : Word) : (s.setResult v).busAnswers = s.busAnswers := rfl
@[simp] theorem State.setResult_now (s : State) (v : Word) : (s.setResult v).now = s.now := rfl
@[simp] theorem State.setResult_draws (s : State) (v : Word) : (s.setResult v).draws = s.draws := rfl
@[simp] theorem State.setResult_resets (s : State) (v : Word) : (s.setResult v).resets = s.resets := rfl
@[simp] theorem State.setResult_program (s : State) (v : Word) : (s.setResult v).program = s.program := rfl
@[simp] theorem State.setResult_hostReads (s : State) (v : Word) : (s.setResult v).hostReads = s.hostReads := rfl
@[simp] theorem State.setResult_sched (s : State) (v : Word) : (s.setResult v).sched = s.sched := rfl

/-! ### `State.setAcc` -/

@[simp] theorem State.setAcc_cfg (s : State) (v : Byte) : (s.setAcc v).cfg = s.cfg := rfl
@[simp] theorem State.setAcc_illegal (s : State) (v : Byte) : (s.setAcc v).illegal = s.illegal := rfl
@[simp] theorem State.setAcc_overrun (s : State) (v : Byte) : (s.setAcc v).overrun = s.overrun := rfl
@[simp] theorem State.setAcc_recValid (s : State) (v : Byte) : (s.setAcc v).recValid = s.recValid := rfl
@[simp] theorem State.setAcc_lastResult (s : State) (v : Byte) : (s.setAcc v).lastResult = s.lastResult := rfl
@[simp] theorem State.setAcc_recovered (s : State) (v : Byte) : (s.setAcc v).recovered = s.recovered := rfl
@[simp] theorem State.setAcc_result (s : State) (v : Byte) : (s.setAcc v).result = s.result := rfl
@[simp] theorem State.setAcc_acc (s : State) (v : Byte) : (s.setAcc v).acc = v := rfl
@[simp] theorem State.setAcc_threshold (s : State) (v : Byte) : (s.setAcc v).threshold = s.threshold := rfl
@[simp] theorem State.setAcc_linkState (s : State) (v : Byte) : (s.setAcc v).linkState = s.linkState := rfl
@[simp] theorem State.setAcc_isHealthy (s : State) (v : Byte) : (s.setAcc v).isHealthy = s.isHealthy := rfl
@[simp] theorem State.setAcc_badCnt (s : State) (v : Byte) : (s.setAcc v).badCnt = s.badCnt := rfl
@[simp] theorem State.setAcc_goodCnt (s : State) (v : Byte) : (s.setAcc v).goodCnt = s.goodCnt := rfl
@[simp] theorem State.setAcc_lastGoodTs (s : State) (v : Byte) : (s.setAcc v).lastGoodTs = s.lastGoodTs := rfl
@[simp] theorem State.setAcc_record (s : State) (v : Byte) : (s.setAcc v).record = s.record := rfl
@[simp] theorem State.setAcc_engine (s : State) (v : Byte) : (s.setAcc v).engine = s.engine := rfl
@[simp] theorem State.setAcc_rx (s : State) (v : Byte) : (s.setAcc v).rx = s.rx := rfl
@[simp] theorem State.setAcc_tx (s : State) (v : Byte) : (s.setAcc v).tx = s.tx := rfl
@[simp] theorem State.setAcc_busLog (s : State) (v : Byte) : (s.setAcc v).busLog = s.busLog := rfl
@[simp] theorem State.setAcc_busAnswers (s : State) (v : Byte) : (s.setAcc v).busAnswers = s.busAnswers := rfl
@[simp] theorem State.setAcc_now (s : State) (v : Byte) : (s.setAcc v).now = s.now := rfl
@[simp] theorem State.setAcc_draws (s : State) (v : Byte) : (s.setAcc v).draws = s.draws := rfl
@[simp] theorem State.setAcc_resets (s : State) (v : Byte) : (s.setAcc v).resets = s.resets := rfl
@[simp] theorem State.setAcc_program (s : State) (v : Byte) : (s.setAcc v).program = s.program := rfl
@[simp] theorem State.setAcc_hostReads (s : State) (v : Byte) : (s.setAcc v).hostReads = s.hostReads := rfl
@[simp] theorem State.setAcc_sched (s : State) (v : Byte) : (s.setAcc v).sched = s.sched := rfl

/-! ### `State.setThreshold` -/

@[simp] theorem State.setThreshold_cfg (s : State) (v : Word) : (s.setThreshold v).cfg = s.cfg := rfl
@[simp] theorem State.setThreshold_illegal (s : State) (v : Word) : (s.setThreshold v).illegal = s.illegal := rfl
@[simp] theorem State.setThreshold_overrun (s : State) (v : Word) : (s.setThreshold v).overrun = s.overrun := rfl
@[simp] theorem State.setThreshold_recValid (s : State) (v : Word) : (s.setThreshold v).recValid = s.recValid := rfl
@[simp] theorem State.setThreshold_lastResult (s : State) (v : Word) : (s.setThreshold v).lastResult = s.lastResult := rfl
@[simp] theorem State.setThreshold_recovered (s : State) (v : Word) : (s.setThreshold v).recovered = s.recovered := rfl
@[simp] theorem State.setThreshold_result (s : State) (v : Word) : (s.setThreshold v).result = s.result := rfl
@[simp] theorem State.setThreshold_acc (s : State) (v : Word) : (s.setThreshold v).acc = s.acc := rfl
@[simp] theorem State.setThreshold_threshold (s : State) (v : Word) : (s.setThreshold v).threshold = v := rfl
@[simp] theorem State.setThreshold_linkState (s : State) (v : Word) : (s.setThreshold v).linkState = s.linkState := rfl
@[simp] theorem State.setThreshold_isHealthy (s : State) (v : Word) : (s.setThreshold v).isHealthy = s.isHealthy := rfl
@[simp] theorem State.setThreshold_badCnt (s : State) (v : Word) : (s.setThreshold v).badCnt = s.badCnt := rfl
@[simp] theorem State.setThreshold_goodCnt (s : State) (v : Word) : (s.setThreshold v).goodCnt = s.goodCnt := rfl
@[simp] theorem State.setThreshold_lastGoodTs (s : State) (v : Word) : (s.setThreshold v).lastGoodTs = s.lastGoodTs := rfl
@[simp] theorem State.setThreshold_record (s : State) (v : Word) : (s.setThreshold v).record = s.record := rfl
@[simp] theorem State.setThreshold_engine (s : State) (v : Word) : (s.setThreshold v).engine = s.engine := rfl
@[simp] theorem State.setThreshold_rx (s : State) (v : Word) : (s.setThreshold v).rx = s.rx := rfl
@[simp] theorem State.setThreshold_tx (s : State) (v : Word) : (s.setThreshold v).tx = s.tx := rfl
@[simp] theorem State.setThreshold_busLog (s : State) (v : Word) : (s.setThreshold v).busLog = s.busLog := rfl
@[simp] theorem State.setThreshold_busAnswers (s : State) (v : Word) : (s.setThreshold v).busAnswers = s.busAnswers := rfl
@[simp] theorem State.setThreshold_now (s : State) (v : Word) : (s.setThreshold v).now = s.now := rfl
@[simp] theorem State.setThreshold_draws (s : State) (v : Word) : (s.setThreshold v).draws = s.draws := rfl
@[simp] theorem State.setThreshold_resets (s : State) (v : Word) : (s.setThreshold v).resets = s.resets := rfl
@[simp] theorem State.setThreshold_program (s : State) (v : Word) : (s.setThreshold v).program = s.program := rfl
@[simp] theorem State.setThreshold_hostReads (s : State) (v : Word) : (s.setThreshold v).hostReads = s.hostReads := rfl
@[simp] theorem State.setThreshold_sched (s : State) (v : Word) : (s.setThreshold v).sched = s.sched := rfl

/-! ### `State.setEngine` -/

@[simp] theorem State.setEngine_cfg (s : State) (e : Engine) : (s.setEngine e).cfg = s.cfg := rfl
@[simp] theorem State.setEngine_illegal (s : State) (e : Engine) : (s.setEngine e).illegal = s.illegal := rfl
@[simp] theorem State.setEngine_overrun (s : State) (e : Engine) : (s.setEngine e).overrun = s.overrun := rfl
@[simp] theorem State.setEngine_recValid (s : State) (e : Engine) : (s.setEngine e).recValid = s.recValid := rfl
@[simp] theorem State.setEngine_lastResult (s : State) (e : Engine) : (s.setEngine e).lastResult = s.lastResult := rfl
@[simp] theorem State.setEngine_recovered (s : State) (e : Engine) : (s.setEngine e).recovered = s.recovered := rfl
@[simp] theorem State.setEngine_result (s : State) (e : Engine) : (s.setEngine e).result = s.result := rfl
@[simp] theorem State.setEngine_acc (s : State) (e : Engine) : (s.setEngine e).acc = s.acc := rfl
@[simp] theorem State.setEngine_threshold (s : State) (e : Engine) : (s.setEngine e).threshold = s.threshold := rfl
@[simp] theorem State.setEngine_linkState (s : State) (e : Engine) : (s.setEngine e).linkState = s.linkState := rfl
@[simp] theorem State.setEngine_isHealthy (s : State) (e : Engine) : (s.setEngine e).isHealthy = s.isHealthy := rfl
@[simp] theorem State.setEngine_badCnt (s : State) (e : Engine) : (s.setEngine e).badCnt = s.badCnt := rfl
@[simp] theorem State.setEngine_goodCnt (s : State) (e : Engine) : (s.setEngine e).goodCnt = s.goodCnt := rfl
@[simp] theorem State.setEngine_lastGoodTs (s : State) (e : Engine) : (s.setEngine e).lastGoodTs = s.lastGoodTs := rfl
@[simp] theorem State.setEngine_record (s : State) (e : Engine) : (s.setEngine e).record = s.record := rfl
@[simp] theorem State.setEngine_engine (s : State) (e : Engine) : (s.setEngine e).engine = e := rfl
@[simp] theorem State.setEngine_rx (s : State) (e : Engine) : (s.setEngine e).rx = s.rx := rfl
@[simp] theorem State.setEngine_tx (s : State) (e : Engine) : (s.setEngine e).tx = s.tx := rfl
@[simp] theorem State.setEngine_busLog (s : State) (e : Engine) : (s.setEngine e).busLog = s.busLog := rfl
@[simp] theorem State.setEngine_busAnswers (s : State) (e : Engine) : (s.setEngine e).busAnswers = s.busAnswers := rfl
@[simp] theorem State.setEngine_now (s : State) (e : Engine) : (s.setEngine e).now = s.now := rfl
@[simp] theorem State.setEngine_draws (s : State) (e : Engine) : (s.setEngine e).draws = s.draws := rfl
@[simp] theorem State.setEngine_resets (s : State) (e : Engine) : (s.setEngine e).resets = s.resets := rfl
@[simp] theorem State.setEngine_program (s : State) (e : Engine) : (s.setEngine e).program = s.program := rfl
@[simp] theorem State.setEngine_hostReads (s : State) (e : Engine) : (s.setEngine e).hostReads = s.hostReads := rfl
@[simp] theorem State.setEngine_sched (s : State) (e : Engine) : (s.setEngine e).sched = s.sched := rfl

/-! ### `State.raiseIllegal` -/

@[simp] theorem State.raiseIllegal_cfg (s : State) : s.raiseIllegal.cfg = s.cfg := rfl
@[simp] theorem State.raiseIllegal_illegal (s : State) : s.raiseIllegal.illegal = true := rfl
@[simp] theorem State.raiseIllegal_overrun (s : State) : s.raiseIllegal.overrun = s.overrun := rfl
@[simp] theorem State.raiseIllegal_recValid (s : State) : s.raiseIllegal.recValid = s.recValid := rfl
@[simp] theorem State.raiseIllegal_lastResult (s : State) : s.raiseIllegal.lastResult = s.lastResult := rfl
@[simp] theorem State.raiseIllegal_recovered (s : State) : s.raiseIllegal.recovered = s.recovered := rfl
@[simp] theorem State.raiseIllegal_result (s : State) : s.raiseIllegal.result = s.result := rfl
@[simp] theorem State.raiseIllegal_acc (s : State) : s.raiseIllegal.acc = s.acc := rfl
@[simp] theorem State.raiseIllegal_threshold (s : State) : s.raiseIllegal.threshold = s.threshold := rfl
@[simp] theorem State.raiseIllegal_linkState (s : State) : s.raiseIllegal.linkState = s.linkState := rfl
@[simp] theorem State.raiseIllegal_isHealthy (s : State) : s.raiseIllegal.isHealthy = s.isHealthy := rfl
@[simp] theorem State.raiseIllegal_badCnt (s : State) : s.raiseIllegal.badCnt = s.badCnt := rfl
@[simp] theorem State.raiseIllegal_goodCnt (s : State) : s.raiseIllegal.goodCnt = s.goodCnt := rfl
@[simp] theorem State.raiseIllegal_lastGoodTs (s : State) : s.raiseIllegal.lastGoodTs = s.lastGoodTs := rfl
@[simp] theorem State.raiseIllegal_record (s : State) : s.raiseIllegal.record = s.record := rfl
@[simp] theorem State.raiseIllegal_engine (s : State) : s.raiseIllegal.engine = s.engine := rfl
@[simp] theorem State.raiseIllegal_rx (s : State) : s.raiseIllegal.rx = s.rx := rfl
@[simp] theorem State.raiseIllegal_tx (s : State) : s.raiseIllegal.tx = s.tx := rfl
@[simp] theorem State.raiseIllegal_busLog (s : State) : s.raiseIllegal.busLog = s.busLog := rfl
@[simp] theorem State.raiseIllegal_busAnswers (s : State) : s.raiseIllegal.busAnswers = s.busAnswers := rfl
@[simp] theorem State.raiseIllegal_now (s : State) : s.raiseIllegal.now = s.now := rfl
@[simp] theorem State.raiseIllegal_draws (s : State) : s.raiseIllegal.draws = s.draws := rfl
@[simp] theorem State.raiseIllegal_resets (s : State) : s.raiseIllegal.resets = s.resets := rfl
@[simp] theorem State.raiseIllegal_program (s : State) : s.raiseIllegal.program = s.program := rfl
@[simp] theorem State.raiseIllegal_hostReads (s : State) : s.raiseIllegal.hostReads = s.hostReads := rfl
@[simp] theorem State.raiseIllegal_sched (s : State) : s.raiseIllegal.sched = s.sched := rfl

/-! ### `State.raiseOverrun` -/

@[simp] theorem State.raiseOverrun_cfg (s : State) : s.raiseOverrun.cfg = s.cfg := rfl
@[simp] theorem State.raiseOverrun_illegal (s : State) : s.raiseOverrun.illegal = s.illegal := rfl
@[simp] theorem State.raiseOverrun_overrun (s : State) : s.raiseOverrun.overrun = true := rfl
@[simp] theorem State.raiseOverrun_recValid (s : State) : s.raiseOverrun.recValid = s.recValid := rfl
@[simp] theorem State.raiseOverrun_lastResult (s : State) : s.raiseOverrun.lastResult = s.lastResult := rfl
@[simp] theorem State.raiseOverrun_recovered (s : State) : s.raiseOverrun.recovered = s.recovered := rfl
@[simp] theorem State.raiseOverrun_result (s : State) : s.raiseOverrun.result = s.result := rfl
@[simp] theorem State.raiseOverrun_acc (s : State) : s.raiseOverrun.acc = s.acc := rfl
@[simp] theorem State.raiseOverrun_threshold (s : State) : s.raiseOverrun.threshold = s.threshold := rfl
@[simp] theorem State.raiseOverrun_linkState (s : State) : s.raiseOverrun.linkState = s.linkState := rfl
@[simp] theorem State.raiseOverrun_isHealthy (s : State) : s.raiseOverrun.isHealthy = s.isHealthy := rfl
@[simp] theorem State.raiseOverrun_badCnt (s : State) : s.raiseOverrun.badCnt = s.badCnt := rfl
@[simp] theorem State.raiseOverrun_goodCnt (s : State) : s.raiseOverrun.goodCnt = s.goodCnt := rfl
@[simp] theorem State.raiseOverrun_lastGoodTs (s : State) : s.raiseOverrun.lastGoodTs = s.lastGoodTs := rfl
@[simp] theorem State.raiseOverrun_record (s : State) : s.raiseOverrun.record = s.record := rfl
@[simp] theorem State.raiseOverrun_engine (s : State) : s.raiseOverrun.engine = s.engine := rfl
@[simp] theorem State.raiseOverrun_rx (s : State) : s.raiseOverrun.rx = s.rx := rfl
@[simp] theorem State.raiseOverrun_tx (s : State) : s.raiseOverrun.tx = s.tx := rfl
@[simp] theorem State.raiseOverrun_busLog (s : State) : s.raiseOverrun.busLog = s.busLog := rfl
@[simp] theorem State.raiseOverrun_busAnswers (s : State) : s.raiseOverrun.busAnswers = s.busAnswers := rfl
@[simp] theorem State.raiseOverrun_now (s : State) : s.raiseOverrun.now = s.now := rfl
@[simp] theorem State.raiseOverrun_draws (s : State) : s.raiseOverrun.draws = s.draws := rfl
@[simp] theorem State.raiseOverrun_resets (s : State) : s.raiseOverrun.resets = s.resets := rfl
@[simp] theorem State.raiseOverrun_program (s : State) : s.raiseOverrun.program = s.program := rfl
@[simp] theorem State.raiseOverrun_hostReads (s : State) : s.raiseOverrun.hostReads = s.hostReads := rfl
@[simp] theorem State.raiseOverrun_sched (s : State) : s.raiseOverrun.sched = s.sched := rfl

/-! ### `State.clearSticky` -/

@[simp] theorem State.clearSticky_cfg (s : State) (v : Word) : (s.clearSticky v).cfg = s.cfg := rfl
@[simp] theorem State.clearSticky_illegal (s : State) (v : Word) : (s.clearSticky v).illegal = (s.illegal && !v.getLsbD 1) := rfl
@[simp] theorem State.clearSticky_overrun (s : State) (v : Word) : (s.clearSticky v).overrun = (s.overrun && !v.getLsbD 2) := rfl
@[simp] theorem State.clearSticky_recValid (s : State) (v : Word) : (s.clearSticky v).recValid = s.recValid := rfl
@[simp] theorem State.clearSticky_lastResult (s : State) (v : Word) : (s.clearSticky v).lastResult = s.lastResult := rfl
@[simp] theorem State.clearSticky_recovered (s : State) (v : Word) : (s.clearSticky v).recovered = s.recovered := rfl
@[simp] theorem State.clearSticky_result (s : State) (v : Word) : (s.clearSticky v).result = s.result := rfl
@[simp] theorem State.clearSticky_acc (s : State) (v : Word) : (s.clearSticky v).acc = s.acc := rfl
@[simp] theorem State.clearSticky_threshold (s : State) (v : Word) : (s.clearSticky v).threshold = s.threshold := rfl
@[simp] theorem State.clearSticky_linkState (s : State) (v : Word) : (s.clearSticky v).linkState = s.linkState := rfl
@[simp] theorem State.clearSticky_isHealthy (s : State) (v : Word) : (s.clearSticky v).isHealthy = s.isHealthy := rfl
@[simp] theorem State.clearSticky_badCnt (s : State) (v : Word) : (s.clearSticky v).badCnt = s.badCnt := rfl
@[simp] theorem State.clearSticky_goodCnt (s : State) (v : Word) : (s.clearSticky v).goodCnt = s.goodCnt := rfl
@[simp] theorem State.clearSticky_lastGoodTs (s : State) (v : Word) : (s.clearSticky v).lastGoodTs = s.lastGoodTs := rfl
@[simp] theorem State.clearSticky_record (s : State) (v : Word) : (s.clearSticky v).record = s.record := rfl
@[simp] theorem State.clearSticky_engine (s : State) (v : Word) : (s.clearSticky v).engine = s.engine := rfl
@[simp] theorem State.clearSticky_rx (s : State) (v : Word) : (s.clearSticky v).rx = s.rx := rfl
@[simp] theorem State.clearSticky_tx (s : State) (v : Word) : (s.clearSticky v).tx = s.tx := rfl
@[simp] theorem State.clearSticky_busLog (s : State) (v : Word) : (s.clearSticky v).busLog = s.busLog := rfl
@[simp] theorem State.clearSticky_busAnswers (s : State) (v : Word) : (s.clearSticky v).busAnswers = s.busAnswers := rfl
@[simp] theorem State.clearSticky_now (s : State) (v : Word) : (s.clearSticky v).now = s.now := rfl
@[simp] theorem State.clearSticky_draws (s : State) (v : Word) : (s.clearSticky v).draws = s.draws := rfl
@[simp] theorem State.clearSticky_resets (s : State) (v : Word) : (s.clearSticky v).resets = s.resets := rfl
@[simp] theorem State.clearSticky_program (s : State) (v : Word) : (s.clearSticky v).program = s.program := rfl
@[simp] theorem State.clearSticky_hostReads (s : State) (v : Word) : (s.clearSticky v).hostReads = s.hostReads := rfl
@[simp] theorem State.clearSticky_sched (s : State) (v : Word) : (s.clearSticky v).sched = s.sched := rfl

/-! ### `State.logRead` -/

@[simp] theorem State.logRead_cfg (s : State) (off : Nat) (v : Word) : (s.logRead off v).cfg = s.cfg := rfl
@[simp] theorem State.logRead_illegal (s : State) (off : Nat) (v : Word) : (s.logRead off v).illegal = s.illegal := rfl
@[simp] theorem State.logRead_overrun (s : State) (off : Nat) (v : Word) : (s.logRead off v).overrun = s.overrun := rfl
@[simp] theorem State.logRead_recValid (s : State) (off : Nat) (v : Word) : (s.logRead off v).recValid = s.recValid := rfl
@[simp] theorem State.logRead_lastResult (s : State) (off : Nat) (v : Word) : (s.logRead off v).lastResult = s.lastResult := rfl
@[simp] theorem State.logRead_recovered (s : State) (off : Nat) (v : Word) : (s.logRead off v).recovered = s.recovered := rfl
@[simp] theorem State.logRead_result (s : State) (off : Nat) (v : Word) : (s.logRead off v).result = s.result := rfl
@[simp] theorem State.logRead_acc (s : State) (off : Nat) (v : Word) : (s.logRead off v).acc = s.acc := rfl
@[simp] theorem State.logRead_threshold (s : State) (off : Nat) (v : Word) : (s.logRead off v).threshold = s.threshold := rfl
@[simp] theorem State.logRead_linkState (s : State) (off : Nat) (v : Word) : (s.logRead off v).linkState = s.linkState := rfl
@[simp] theorem State.logRead_isHealthy (s : State) (off : Nat) (v : Word) : (s.logRead off v).isHealthy = s.isHealthy := rfl
@[simp] theorem State.logRead_badCnt (s : State) (off : Nat) (v : Word) : (s.logRead off v).badCnt = s.badCnt := rfl
@[simp] theorem State.logRead_goodCnt (s : State) (off : Nat) (v : Word) : (s.logRead off v).goodCnt = s.goodCnt := rfl
@[simp] theorem State.logRead_lastGoodTs (s : State) (off : Nat) (v : Word) : (s.logRead off v).lastGoodTs = s.lastGoodTs := rfl
@[simp] theorem State.logRead_record (s : State) (off : Nat) (v : Word) : (s.logRead off v).record = s.record := rfl
@[simp] theorem State.logRead_engine (s : State) (off : Nat) (v : Word) : (s.logRead off v).engine = s.engine := rfl
@[simp] theorem State.logRead_rx (s : State) (off : Nat) (v : Word) : (s.logRead off v).rx = s.rx := rfl
@[simp] theorem State.logRead_tx (s : State) (off : Nat) (v : Word) : (s.logRead off v).tx = s.tx := rfl
@[simp] theorem State.logRead_busLog (s : State) (off : Nat) (v : Word) : (s.logRead off v).busLog = s.busLog := rfl
@[simp] theorem State.logRead_busAnswers (s : State) (off : Nat) (v : Word) : (s.logRead off v).busAnswers = s.busAnswers := rfl
@[simp] theorem State.logRead_now (s : State) (off : Nat) (v : Word) : (s.logRead off v).now = s.now := rfl
@[simp] theorem State.logRead_draws (s : State) (off : Nat) (v : Word) : (s.logRead off v).draws = s.draws := rfl
@[simp] theorem State.logRead_resets (s : State) (off : Nat) (v : Word) : (s.logRead off v).resets = s.resets := rfl
@[simp] theorem State.logRead_program (s : State) (off : Nat) (v : Word) : (s.logRead off v).program = s.program := rfl
@[simp] theorem State.logRead_hostReads (s : State) (off : Nat) (v : Word) : (s.logRead off v).hostReads = s.hostReads ++ [(off, v)] := rfl
@[simp] theorem State.logRead_sched (s : State) (off : Nat) (v : Word) : (s.logRead off v).sched = s.sched := rfl

/-! ### `State.rxDiscard` -/

@[simp] theorem State.rxDiscard_cfg (s : State) (n : Nat) : (s.rxDiscard n).cfg = s.cfg := rfl
@[simp] theorem State.rxDiscard_illegal (s : State) (n : Nat) : (s.rxDiscard n).illegal = s.illegal := rfl
@[simp] theorem State.rxDiscard_overrun (s : State) (n : Nat) : (s.rxDiscard n).overrun = s.overrun := rfl
@[simp] theorem State.rxDiscard_recValid (s : State) (n : Nat) : (s.rxDiscard n).recValid = s.recValid := rfl
@[simp] theorem State.rxDiscard_lastResult (s : State) (n : Nat) : (s.rxDiscard n).lastResult = s.lastResult := rfl
@[simp] theorem State.rxDiscard_recovered (s : State) (n : Nat) : (s.rxDiscard n).recovered = s.recovered := rfl
@[simp] theorem State.rxDiscard_result (s : State) (n : Nat) : (s.rxDiscard n).result = s.result := rfl
@[simp] theorem State.rxDiscard_acc (s : State) (n : Nat) : (s.rxDiscard n).acc = s.acc := rfl
@[simp] theorem State.rxDiscard_threshold (s : State) (n : Nat) : (s.rxDiscard n).threshold = s.threshold := rfl
@[simp] theorem State.rxDiscard_linkState (s : State) (n : Nat) : (s.rxDiscard n).linkState = s.linkState := rfl
@[simp] theorem State.rxDiscard_isHealthy (s : State) (n : Nat) : (s.rxDiscard n).isHealthy = s.isHealthy := rfl
@[simp] theorem State.rxDiscard_badCnt (s : State) (n : Nat) : (s.rxDiscard n).badCnt = s.badCnt := rfl
@[simp] theorem State.rxDiscard_goodCnt (s : State) (n : Nat) : (s.rxDiscard n).goodCnt = s.goodCnt := rfl
@[simp] theorem State.rxDiscard_lastGoodTs (s : State) (n : Nat) : (s.rxDiscard n).lastGoodTs = s.lastGoodTs := rfl
@[simp] theorem State.rxDiscard_record (s : State) (n : Nat) : (s.rxDiscard n).record = s.record := rfl
@[simp] theorem State.rxDiscard_engine (s : State) (n : Nat) : (s.rxDiscard n).engine = s.engine := rfl
@[simp] theorem State.rxDiscard_rx (s : State) (n : Nat) : (s.rxDiscard n).rx = s.rx.drop n := rfl
@[simp] theorem State.rxDiscard_tx (s : State) (n : Nat) : (s.rxDiscard n).tx = s.tx := rfl
@[simp] theorem State.rxDiscard_busLog (s : State) (n : Nat) : (s.rxDiscard n).busLog = s.busLog := rfl
@[simp] theorem State.rxDiscard_busAnswers (s : State) (n : Nat) : (s.rxDiscard n).busAnswers = s.busAnswers := rfl
@[simp] theorem State.rxDiscard_now (s : State) (n : Nat) : (s.rxDiscard n).now = s.now := rfl
@[simp] theorem State.rxDiscard_draws (s : State) (n : Nat) : (s.rxDiscard n).draws = s.draws := rfl
@[simp] theorem State.rxDiscard_resets (s : State) (n : Nat) : (s.rxDiscard n).resets = s.resets := rfl
@[simp] theorem State.rxDiscard_program (s : State) (n : Nat) : (s.rxDiscard n).program = s.program := rfl
@[simp] theorem State.rxDiscard_hostReads (s : State) (n : Nat) : (s.rxDiscard n).hostReads = s.hostReads := rfl
@[simp] theorem State.rxDiscard_sched (s : State) (n : Nat) : (s.rxDiscard n).sched = s.sched := rfl

/-! ### `State.rxAppend` -/

@[simp] theorem State.rxAppend_cfg (s : State) (bytes : List Byte) : (s.rxAppend bytes).cfg = s.cfg := rfl
@[simp] theorem State.rxAppend_illegal (s : State) (bytes : List Byte) : (s.rxAppend bytes).illegal = s.illegal := rfl
@[simp] theorem State.rxAppend_overrun (s : State) (bytes : List Byte) : (s.rxAppend bytes).overrun = s.overrun := rfl
@[simp] theorem State.rxAppend_recValid (s : State) (bytes : List Byte) : (s.rxAppend bytes).recValid = s.recValid := rfl
@[simp] theorem State.rxAppend_lastResult (s : State) (bytes : List Byte) : (s.rxAppend bytes).lastResult = s.lastResult := rfl
@[simp] theorem State.rxAppend_recovered (s : State) (bytes : List Byte) : (s.rxAppend bytes).recovered = s.recovered := rfl
@[simp] theorem State.rxAppend_result (s : State) (bytes : List Byte) : (s.rxAppend bytes).result = s.result := rfl
@[simp] theorem State.rxAppend_acc (s : State) (bytes : List Byte) : (s.rxAppend bytes).acc = s.acc := rfl
@[simp] theorem State.rxAppend_threshold (s : State) (bytes : List Byte) : (s.rxAppend bytes).threshold = s.threshold := rfl
@[simp] theorem State.rxAppend_linkState (s : State) (bytes : List Byte) : (s.rxAppend bytes).linkState = s.linkState := rfl
@[simp] theorem State.rxAppend_isHealthy (s : State) (bytes : List Byte) : (s.rxAppend bytes).isHealthy = s.isHealthy := rfl
@[simp] theorem State.rxAppend_badCnt (s : State) (bytes : List Byte) : (s.rxAppend bytes).badCnt = s.badCnt := rfl
@[simp] theorem State.rxAppend_goodCnt (s : State) (bytes : List Byte) : (s.rxAppend bytes).goodCnt = s.goodCnt := rfl
@[simp] theorem State.rxAppend_lastGoodTs (s : State) (bytes : List Byte) : (s.rxAppend bytes).lastGoodTs = s.lastGoodTs := rfl
@[simp] theorem State.rxAppend_record (s : State) (bytes : List Byte) : (s.rxAppend bytes).record = s.record := rfl
@[simp] theorem State.rxAppend_engine (s : State) (bytes : List Byte) : (s.rxAppend bytes).engine = s.engine := rfl
@[simp] theorem State.rxAppend_rx (s : State) (bytes : List Byte) : (s.rxAppend bytes).rx = s.rx ++ bytes := rfl
@[simp] theorem State.rxAppend_tx (s : State) (bytes : List Byte) : (s.rxAppend bytes).tx = s.tx := rfl
@[simp] theorem State.rxAppend_busLog (s : State) (bytes : List Byte) : (s.rxAppend bytes).busLog = s.busLog := rfl
@[simp] theorem State.rxAppend_busAnswers (s : State) (bytes : List Byte) : (s.rxAppend bytes).busAnswers = s.busAnswers := rfl
@[simp] theorem State.rxAppend_now (s : State) (bytes : List Byte) : (s.rxAppend bytes).now = s.now := rfl
@[simp] theorem State.rxAppend_draws (s : State) (bytes : List Byte) : (s.rxAppend bytes).draws = s.draws := rfl
@[simp] theorem State.rxAppend_resets (s : State) (bytes : List Byte) : (s.rxAppend bytes).resets = s.resets := rfl
@[simp] theorem State.rxAppend_program (s : State) (bytes : List Byte) : (s.rxAppend bytes).program = s.program := rfl
@[simp] theorem State.rxAppend_hostReads (s : State) (bytes : List Byte) : (s.rxAppend bytes).hostReads = s.hostReads := rfl
@[simp] theorem State.rxAppend_sched (s : State) (bytes : List Byte) : (s.rxAppend bytes).sched = s.sched := rfl

/-! ### `State.txSend` -/

@[simp] theorem State.txSend_cfg (s : State) (bytes : List Byte) : (s.txSend bytes).cfg = s.cfg := rfl
@[simp] theorem State.txSend_illegal (s : State) (bytes : List Byte) : (s.txSend bytes).illegal = s.illegal := rfl
@[simp] theorem State.txSend_overrun (s : State) (bytes : List Byte) : (s.txSend bytes).overrun = s.overrun := rfl
@[simp] theorem State.txSend_recValid (s : State) (bytes : List Byte) : (s.txSend bytes).recValid = s.recValid := rfl
@[simp] theorem State.txSend_lastResult (s : State) (bytes : List Byte) : (s.txSend bytes).lastResult = s.lastResult := rfl
@[simp] theorem State.txSend_recovered (s : State) (bytes : List Byte) : (s.txSend bytes).recovered = s.recovered := rfl
@[simp] theorem State.txSend_result (s : State) (bytes : List Byte) : (s.txSend bytes).result = s.result := rfl
@[simp] theorem State.txSend_acc (s : State) (bytes : List Byte) : (s.txSend bytes).acc = s.acc := rfl
@[simp] theorem State.txSend_threshold (s : State) (bytes : List Byte) : (s.txSend bytes).threshold = s.threshold := rfl
@[simp] theorem State.txSend_linkState (s : State) (bytes : List Byte) : (s.txSend bytes).linkState = s.linkState := rfl
@[simp] theorem State.txSend_isHealthy (s : State) (bytes : List Byte) : (s.txSend bytes).isHealthy = s.isHealthy := rfl
@[simp] theorem State.txSend_badCnt (s : State) (bytes : List Byte) : (s.txSend bytes).badCnt = s.badCnt := rfl
@[simp] theorem State.txSend_goodCnt (s : State) (bytes : List Byte) : (s.txSend bytes).goodCnt = s.goodCnt := rfl
@[simp] theorem State.txSend_lastGoodTs (s : State) (bytes : List Byte) : (s.txSend bytes).lastGoodTs = s.lastGoodTs := rfl
@[simp] theorem State.txSend_record (s : State) (bytes : List Byte) : (s.txSend bytes).record = s.record := rfl
@[simp] theorem State.txSend_engine (s : State) (bytes : List Byte) : (s.txSend bytes).engine = s.engine := rfl
@[simp] theorem State.txSend_rx (s : State) (bytes : List Byte) : (s.txSend bytes).rx = s.rx := rfl
@[simp] theorem State.txSend_tx (s : State) (bytes : List Byte) : (s.txSend bytes).tx = s.tx ++ bytes := rfl
@[simp] theorem State.txSend_busLog (s : State) (bytes : List Byte) : (s.txSend bytes).busLog = s.busLog := rfl
@[simp] theorem State.txSend_busAnswers (s : State) (bytes : List Byte) : (s.txSend bytes).busAnswers = s.busAnswers := rfl
@[simp] theorem State.txSend_now (s : State) (bytes : List Byte) : (s.txSend bytes).now = s.now := rfl
@[simp] theorem State.txSend_draws (s : State) (bytes : List Byte) : (s.txSend bytes).draws = s.draws := rfl
@[simp] theorem State.txSend_resets (s : State) (bytes : List Byte) : (s.txSend bytes).resets = s.resets := rfl
@[simp] theorem State.txSend_program (s : State) (bytes : List Byte) : (s.txSend bytes).program = s.program := rfl
@[simp] theorem State.txSend_hostReads (s : State) (bytes : List Byte) : (s.txSend bytes).hostReads = s.hostReads := rfl
@[simp] theorem State.txSend_sched (s : State) (bytes : List Byte) : (s.txSend bytes).sched = s.sched := rfl

/-! ### `State.busWrite` -/

@[simp] theorem State.busWrite_cfg (s : State) (ptr : BitVec 16) (d : List Byte) : (s.busWrite ptr d).cfg = s.cfg := rfl
@[simp] theorem State.busWrite_illegal (s : State) (ptr : BitVec 16) (d : List Byte) : (s.busWrite ptr d).illegal = s.illegal := rfl
@[simp] theorem State.busWrite_overrun (s : State) (ptr : BitVec 16) (d : List Byte) : (s.busWrite ptr d).overrun = s.overrun := rfl
@[simp] theorem State.busWrite_recValid (s : State) (ptr : BitVec 16) (d : List Byte) : (s.busWrite ptr d).recValid = s.recValid := rfl
@[simp] theorem State.busWrite_lastResult (s : State) (ptr : BitVec 16) (d : List Byte) : (s.busWrite ptr d).lastResult = s.lastResult := rfl
@[simp] theorem State.busWrite_recovered (s : State) (ptr : BitVec 16) (d : List Byte) : (s.busWrite ptr d).recovered = s.recovered := rfl
@[simp] theorem State.busWrite_result (s : State) (ptr : BitVec 16) (d : List Byte) : (s.busWrite ptr d).result = s.result := rfl
@[simp] theorem State.busWrite_acc (s : State) (ptr : BitVec 16) (d : List Byte) : (s.busWrite ptr d).acc = s.acc := rfl
@[simp] theorem State.busWrite_threshold (s : State) (ptr : BitVec 16) (d : List Byte) : (s.busWrite ptr d).threshold = s.threshold := rfl
@[simp] theorem State.busWrite_linkState (s : State) (ptr : BitVec 16) (d : List Byte) : (s.busWrite ptr d).linkState = s.linkState := rfl
@[simp] theorem State.busWrite_isHealthy (s : State) (ptr : BitVec 16) (d : List Byte) : (s.busWrite ptr d).isHealthy = s.isHealthy := rfl
@[simp] theorem State.busWrite_badCnt (s : State) (ptr : BitVec 16) (d : List Byte) : (s.busWrite ptr d).badCnt = s.badCnt := rfl
@[simp] theorem State.busWrite_goodCnt (s : State) (ptr : BitVec 16) (d : List Byte) : (s.busWrite ptr d).goodCnt = s.goodCnt := rfl
@[simp] theorem State.busWrite_lastGoodTs (s : State) (ptr : BitVec 16) (d : List Byte) : (s.busWrite ptr d).lastGoodTs = s.lastGoodTs := rfl
@[simp] theorem State.busWrite_record (s : State) (ptr : BitVec 16) (d : List Byte) : (s.busWrite ptr d).record = s.record := rfl
@[simp] theorem State.busWrite_engine (s : State) (ptr : BitVec 16) (d : List Byte) : (s.busWrite ptr d).engine = s.engine := rfl
@[simp] theorem State.busWrite_rx (s : State) (ptr : BitVec 16) (d : List Byte) : (s.busWrite ptr d).rx = s.rx := rfl
@[simp] theorem State.busWrite_tx (s : State) (ptr : BitVec 16) (d : List Byte) : (s.busWrite ptr d).tx = s.tx := rfl
@[simp] theorem State.busWrite_busLog (s : State) (ptr : BitVec 16) (d : List Byte) : (s.busWrite ptr d).busLog = s.busLog ++ [.write s.cfg.busDevAddr (ptrBytes ptr ++ d)] := rfl
@[simp] theorem State.busWrite_busAnswers (s : State) (ptr : BitVec 16) (d : List Byte) : (s.busWrite ptr d).busAnswers = s.busAnswers := rfl
@[simp] theorem State.busWrite_now (s : State) (ptr : BitVec 16) (d : List Byte) : (s.busWrite ptr d).now = s.now := rfl
@[simp] theorem State.busWrite_draws (s : State) (ptr : BitVec 16) (d : List Byte) : (s.busWrite ptr d).draws = s.draws := rfl
@[simp] theorem State.busWrite_resets (s : State) (ptr : BitVec 16) (d : List Byte) : (s.busWrite ptr d).resets = s.resets := rfl
@[simp] theorem State.busWrite_program (s : State) (ptr : BitVec 16) (d : List Byte) : (s.busWrite ptr d).program = s.program := rfl
@[simp] theorem State.busWrite_hostReads (s : State) (ptr : BitVec 16) (d : List Byte) : (s.busWrite ptr d).hostReads = s.hostReads := rfl
@[simp] theorem State.busWrite_sched (s : State) (ptr : BitVec 16) (d : List Byte) : (s.busWrite ptr d).sched = s.sched := rfl

/-! ### `State.busRead` -/

@[simp] theorem State.busRead_cfg (s : State) (ptr : BitVec 16) (n : Nat) : (s.busRead ptr n).cfg = s.cfg := rfl
@[simp] theorem State.busRead_illegal (s : State) (ptr : BitVec 16) (n : Nat) : (s.busRead ptr n).illegal = s.illegal := rfl
@[simp] theorem State.busRead_overrun (s : State) (ptr : BitVec 16) (n : Nat) : (s.busRead ptr n).overrun = s.overrun := rfl
@[simp] theorem State.busRead_recValid (s : State) (ptr : BitVec 16) (n : Nat) : (s.busRead ptr n).recValid = s.recValid := rfl
@[simp] theorem State.busRead_lastResult (s : State) (ptr : BitVec 16) (n : Nat) : (s.busRead ptr n).lastResult = s.lastResult := rfl
@[simp] theorem State.busRead_recovered (s : State) (ptr : BitVec 16) (n : Nat) : (s.busRead ptr n).recovered = s.recovered := rfl
@[simp] theorem State.busRead_result (s : State) (ptr : BitVec 16) (n : Nat) : (s.busRead ptr n).result = s.result := rfl
@[simp] theorem State.busRead_acc (s : State) (ptr : BitVec 16) (n : Nat) : (s.busRead ptr n).acc = s.acc := rfl
@[simp] theorem State.busRead_threshold (s : State) (ptr : BitVec 16) (n : Nat) : (s.busRead ptr n).threshold = s.threshold := rfl
@[simp] theorem State.busRead_linkState (s : State) (ptr : BitVec 16) (n : Nat) : (s.busRead ptr n).linkState = s.linkState := rfl
@[simp] theorem State.busRead_isHealthy (s : State) (ptr : BitVec 16) (n : Nat) : (s.busRead ptr n).isHealthy = s.isHealthy := rfl
@[simp] theorem State.busRead_badCnt (s : State) (ptr : BitVec 16) (n : Nat) : (s.busRead ptr n).badCnt = s.badCnt := rfl
@[simp] theorem State.busRead_goodCnt (s : State) (ptr : BitVec 16) (n : Nat) : (s.busRead ptr n).goodCnt = s.goodCnt := rfl
@[simp] theorem State.busRead_lastGoodTs (s : State) (ptr : BitVec 16) (n : Nat) : (s.busRead ptr n).lastGoodTs = s.lastGoodTs := rfl
@[simp] theorem State.busRead_record (s : State) (ptr : BitVec 16) (n : Nat) : (s.busRead ptr n).record = s.record := rfl
@[simp] theorem State.busRead_engine (s : State) (ptr : BitVec 16) (n : Nat) : (s.busRead ptr n).engine = s.engine := rfl
@[simp] theorem State.busRead_rx (s : State) (ptr : BitVec 16) (n : Nat) : (s.busRead ptr n).rx = s.rx := rfl
@[simp] theorem State.busRead_tx (s : State) (ptr : BitVec 16) (n : Nat) : (s.busRead ptr n).tx = s.tx := rfl
@[simp] theorem State.busRead_busLog (s : State) (ptr : BitVec 16) (n : Nat) : (s.busRead ptr n).busLog = s.busLog ++ [.read s.cfg.busDevAddr ptr n s.nextAnswer] := rfl
@[simp] theorem State.busRead_busAnswers (s : State) (ptr : BitVec 16) (n : Nat) : (s.busRead ptr n).busAnswers = s.busAnswers.tail := rfl
@[simp] theorem State.busRead_now (s : State) (ptr : BitVec 16) (n : Nat) : (s.busRead ptr n).now = s.now := rfl
@[simp] theorem State.busRead_draws (s : State) (ptr : BitVec 16) (n : Nat) : (s.busRead ptr n).draws = (if s.busAnswers = [] then s.draws + 1 else s.draws) := rfl
@[simp] theorem State.busRead_resets (s : State) (ptr : BitVec 16) (n : Nat) : (s.busRead ptr n).resets = s.resets := rfl
@[simp] theorem State.busRead_program (s : State) (ptr : BitVec 16) (n : Nat) : (s.busRead ptr n).program = s.program := rfl
@[simp] theorem State.busRead_hostReads (s : State) (ptr : BitVec 16) (n : Nat) : (s.busRead ptr n).hostReads = s.hostReads := rfl
@[simp] theorem State.busRead_sched (s : State) (ptr : BitVec 16) (n : Nat) : (s.busRead ptr n).sched = s.sched := rfl

/-! ### `State.addAnswer` -/

@[simp] theorem State.addAnswer_cfg (s : State) (bytes : List Byte) : (s.addAnswer bytes).cfg = s.cfg := rfl
@[simp] theorem State.addAnswer_illegal (s : State) (bytes : List Byte) : (s.addAnswer bytes).illegal = s.illegal := rfl
@[simp] theorem State.addAnswer_overrun (s : State) (bytes : List Byte) : (s.addAnswer bytes).overrun = s.overrun := rfl
@[simp] theorem State.addAnswer_recValid (s : State) (bytes : List Byte) : (s.addAnswer bytes).recValid = s.recValid := rfl
@[simp] theorem State.addAnswer_lastResult (s : State) (bytes : List Byte) : (s.addAnswer bytes).lastResult = s.lastResult := rfl
@[simp] theorem State.addAnswer_recovered (s : State) (bytes : List Byte) : (s.addAnswer bytes).recovered = s.recovered := rfl
@[simp] theorem State.addAnswer_result (s : State) (bytes : List Byte) : (s.addAnswer bytes).result = s.result := rfl
@[simp] theorem State.addAnswer_acc (s : State) (bytes : List Byte) : (s.addAnswer bytes).acc = s.acc := rfl
@[simp] theorem State.addAnswer_threshold (s : State) (bytes : List Byte) : (s.addAnswer bytes).threshold = s.threshold := rfl
@[simp] theorem State.addAnswer_linkState (s : State) (bytes : List Byte) : (s.addAnswer bytes).linkState = s.linkState := rfl
@[simp] theorem State.addAnswer_isHealthy (s : State) (bytes : List Byte) : (s.addAnswer bytes).isHealthy = s.isHealthy := rfl
@[simp] theorem State.addAnswer_badCnt (s : State) (bytes : List Byte) : (s.addAnswer bytes).badCnt = s.badCnt := rfl
@[simp] theorem State.addAnswer_goodCnt (s : State) (bytes : List Byte) : (s.addAnswer bytes).goodCnt = s.goodCnt := rfl
@[simp] theorem State.addAnswer_lastGoodTs (s : State) (bytes : List Byte) : (s.addAnswer bytes).lastGoodTs = s.lastGoodTs := rfl
@[simp] theorem State.addAnswer_record (s : State) (bytes : List Byte) : (s.addAnswer bytes).record = s.record := rfl
@[simp] theorem State.addAnswer_engine (s : State) (bytes : List Byte) : (s.addAnswer bytes).engine = s.engine := rfl
@[simp] theorem State.addAnswer_rx (s : State) (bytes : List Byte) : (s.addAnswer bytes).rx = s.rx := rfl
@[simp] theorem State.addAnswer_tx (s : State) (bytes : List Byte) : (s.addAnswer bytes).tx = s.tx := rfl
@[simp] theorem State.addAnswer_busLog (s : State) (bytes : List Byte) : (s.addAnswer bytes).busLog = s.busLog := rfl
@[simp] theorem State.addAnswer_busAnswers (s : State) (bytes : List Byte) : (s.addAnswer bytes).busAnswers = s.busAnswers ++ [bytes] := rfl
@[simp] theorem State.addAnswer_now (s : State) (bytes : List Byte) : (s.addAnswer bytes).now = s.now := rfl
@[simp] theorem State.addAnswer_draws (s : State) (bytes : List Byte) : (s.addAnswer bytes).draws = s.draws := rfl
@[simp] theorem State.addAnswer_resets (s : State) (bytes : List Byte) : (s.addAnswer bytes).resets = s.resets := rfl
@[simp] theorem State.addAnswer_program (s : State) (bytes : List Byte) : (s.addAnswer bytes).program = s.program := rfl
@[simp] theorem State.addAnswer_hostReads (s : State) (bytes : List Byte) : (s.addAnswer bytes).hostReads = s.hostReads := rfl
@[simp] theorem State.addAnswer_sched (s : State) (bytes : List Byte) : (s.addAnswer bytes).sched = s.sched := rfl

/-! ### `State.tick` -/

@[simp] theorem State.tick_cfg (s : State) (d : Word) : (s.tick d).cfg = s.cfg := rfl
@[simp] theorem State.tick_illegal (s : State) (d : Word) : (s.tick d).illegal = s.illegal := rfl
@[simp] theorem State.tick_overrun (s : State) (d : Word) : (s.tick d).overrun = s.overrun := rfl
@[simp] theorem State.tick_recValid (s : State) (d : Word) : (s.tick d).recValid = s.recValid := rfl
@[simp] theorem State.tick_lastResult (s : State) (d : Word) : (s.tick d).lastResult = s.lastResult := rfl
@[simp] theorem State.tick_recovered (s : State) (d : Word) : (s.tick d).recovered = s.recovered := rfl
@[simp] theorem State.tick_result (s : State) (d : Word) : (s.tick d).result = s.result := rfl
@[simp] theorem State.tick_acc (s : State) (d : Word) : (s.tick d).acc = s.acc := rfl
@[simp] theorem State.tick_threshold (s : State) (d : Word) : (s.tick d).threshold = s.threshold := rfl
@[simp] theorem State.tick_linkState (s : State) (d : Word) : (s.tick d).linkState = s.linkState := rfl
@[simp] theorem State.tick_isHealthy (s : State) (d : Word) : (s.tick d).isHealthy = s.isHealthy := rfl
@[simp] theorem State.tick_badCnt (s : State) (d : Word) : (s.tick d).badCnt = s.badCnt := rfl
@[simp] theorem State.tick_goodCnt (s : State) (d : Word) : (s.tick d).goodCnt = s.goodCnt := rfl
@[simp] theorem State.tick_lastGoodTs (s : State) (d : Word) : (s.tick d).lastGoodTs = s.lastGoodTs := rfl
@[simp] theorem State.tick_record (s : State) (d : Word) : (s.tick d).record = s.record := rfl
@[simp] theorem State.tick_engine (s : State) (d : Word) : (s.tick d).engine = s.engine := rfl
@[simp] theorem State.tick_rx (s : State) (d : Word) : (s.tick d).rx = s.rx := rfl
@[simp] theorem State.tick_tx (s : State) (d : Word) : (s.tick d).tx = s.tx := rfl
@[simp] theorem State.tick_busLog (s : State) (d : Word) : (s.tick d).busLog = s.busLog := rfl
@[simp] theorem State.tick_busAnswers (s : State) (d : Word) : (s.tick d).busAnswers = s.busAnswers := rfl
@[simp] theorem State.tick_now (s : State) (d : Word) : (s.tick d).now = s.now + d := rfl
@[simp] theorem State.tick_draws (s : State) (d : Word) : (s.tick d).draws = s.draws := rfl
@[simp] theorem State.tick_resets (s : State) (d : Word) : (s.tick d).resets = s.resets := rfl
@[simp] theorem State.tick_program (s : State) (d : Word) : (s.tick d).program = s.program := rfl
@[simp] theorem State.tick_hostReads (s : State) (d : Word) : (s.tick d).hostReads = s.hostReads := rfl
@[simp] theorem State.tick_sched (s : State) (d : Word) : (s.tick d).sched = s.sched := rfl

/-! ### `commitOk` -/

@[simp] theorem commitOk_cfg (p : List Byte) (t1 : Word) (s : State) : (commitOk p t1 s).cfg = s.cfg := rfl
@[simp] theorem commitOk_illegal (p : List Byte) (t1 : Word) (s : State) : (commitOk p t1 s).illegal = s.illegal := rfl
@[simp] theorem commitOk_overrun (p : List Byte) (t1 : Word) (s : State) : (commitOk p t1 s).overrun = s.overrun := rfl
@[simp] theorem commitOk_recValid (p : List Byte) (t1 : Word) (s : State) : (commitOk p t1 s).recValid = true := rfl
@[simp] theorem commitOk_lastResult (p : List Byte) (t1 : Word) (s : State) : (commitOk p t1 s).lastResult = .success := rfl
@[simp] theorem commitOk_recovered (p : List Byte) (t1 : Word) (s : State) : (commitOk p t1 s).recovered = false := rfl
@[simp] theorem commitOk_result (p : List Byte) (t1 : Word) (s : State) : (commitOk p t1 s).result = s.result := rfl
@[simp] theorem commitOk_acc (p : List Byte) (t1 : Word) (s : State) : (commitOk p t1 s).acc = s.acc := rfl
@[simp] theorem commitOk_threshold (p : List Byte) (t1 : Word) (s : State) : (commitOk p t1 s).threshold = s.threshold := rfl
@[simp] theorem commitOk_linkState (p : List Byte) (t1 : Word) (s : State) : (commitOk p t1 s).linkState = .healthy := rfl
@[simp] theorem commitOk_isHealthy (p : List Byte) (t1 : Word) (s : State) : (commitOk p t1 s).isHealthy = true := rfl
@[simp] theorem commitOk_badCnt (p : List Byte) (t1 : Word) (s : State) : (commitOk p t1 s).badCnt = 0 := rfl
@[simp] theorem commitOk_goodCnt (p : List Byte) (t1 : Word) (s : State) : (commitOk p t1 s).goodCnt = sat32 (s.goodCnt.toNat + 1) := rfl
@[simp] theorem commitOk_lastGoodTs (p : List Byte) (t1 : Word) (s : State) : (commitOk p t1 s).lastGoodTs = t1 := rfl
@[simp] theorem commitOk_record (p : List Byte) (t1 : Word) (s : State) : (commitOk p t1 s).record = recordOf p := rfl
@[simp] theorem commitOk_engine (p : List Byte) (t1 : Word) (s : State) : (commitOk p t1 s).engine = .idle := rfl
@[simp] theorem commitOk_rx (p : List Byte) (t1 : Word) (s : State) : (commitOk p t1 s).rx = s.rx := rfl
@[simp] theorem commitOk_tx (p : List Byte) (t1 : Word) (s : State) : (commitOk p t1 s).tx = s.tx := rfl
@[simp] theorem commitOk_busLog (p : List Byte) (t1 : Word) (s : State) : (commitOk p t1 s).busLog = s.busLog := rfl
@[simp] theorem commitOk_busAnswers (p : List Byte) (t1 : Word) (s : State) : (commitOk p t1 s).busAnswers = s.busAnswers := rfl
@[simp] theorem commitOk_now (p : List Byte) (t1 : Word) (s : State) : (commitOk p t1 s).now = s.now := rfl
@[simp] theorem commitOk_draws (p : List Byte) (t1 : Word) (s : State) : (commitOk p t1 s).draws = s.draws := rfl
@[simp] theorem commitOk_resets (p : List Byte) (t1 : Word) (s : State) : (commitOk p t1 s).resets = s.resets := rfl
@[simp] theorem commitOk_program (p : List Byte) (t1 : Word) (s : State) : (commitOk p t1 s).program = s.program := rfl
@[simp] theorem commitOk_hostReads (p : List Byte) (t1 : Word) (s : State) : (commitOk p t1 s).hostReads = s.hostReads := rfl
@[simp] theorem commitOk_sched (p : List Byte) (t1 : Word) (s : State) : (commitOk p t1 s).sched = s.sched := rfl

/-! ### `commitFail` -/

@[simp] theorem commitFail_cfg (k : FailKind) (t2 : Option Word) (s : State) : (commitFail k t2 s).cfg = s.cfg := rfl
@[simp] theorem commitFail_illegal (k : FailKind) (t2 : Option Word) (s : State) : (commitFail k t2 s).illegal = s.illegal := rfl
@[simp] theorem commitFail_overrun (k : FailKind) (t2 : Option Word) (s : State) : (commitFail k t2 s).overrun = s.overrun := rfl
@[simp] theorem commitFail_recValid (k : FailKind) (t2 : Option Word) (s : State) : (commitFail k t2 s).recValid = s.recValid := rfl
@[simp] theorem commitFail_lastResult (k : FailKind) (t2 : Option Word) (s : State) : (commitFail k t2 s).lastResult = .failed k := rfl
@[simp] theorem commitFail_recovered (k : FailKind) (t2 : Option Word) (s : State) : (commitFail k t2 s).recovered = t2.isSome := rfl
@[simp] theorem commitFail_result (k : FailKind) (t2 : Option Word) (s : State) : (commitFail k t2 s).result = s.result := rfl
@[simp] theorem commitFail_acc (k : FailKind) (t2 : Option Word) (s : State) : (commitFail k t2 s).acc = s.acc := rfl
@[simp] theorem commitFail_threshold (k : FailKind) (t2 : Option Word) (s : State) : (commitFail k t2 s).threshold = s.threshold := rfl
@[simp] theorem commitFail_linkState (k : FailKind) (t2 : Option Word) (s : State) : (commitFail k t2 s).linkState = (if degrades s then .degraded else s.linkState) := rfl
@[simp] theorem commitFail_isHealthy (k : FailKind) (t2 : Option Word) (s : State) : (commitFail k t2 s).isHealthy = (if degrades s then false else s.isHealthy) := rfl
@[simp] theorem commitFail_badCnt (k : FailKind) (t2 : Option Word) (s : State) : (commitFail k t2 s).badCnt = sat32 (s.badCnt.toNat + 1) := rfl
@[simp] theorem commitFail_goodCnt (k : FailKind) (t2 : Option Word) (s : State) : (commitFail k t2 s).goodCnt = s.goodCnt := rfl
@[simp] theorem commitFail_lastGoodTs (k : FailKind) (t2 : Option Word) (s : State) : (commitFail k t2 s).lastGoodTs = t2.getD s.lastGoodTs := rfl
@[simp] theorem commitFail_record (k : FailKind) (t2 : Option Word) (s : State) : (commitFail k t2 s).record = s.record := rfl
@[simp] theorem commitFail_engine (k : FailKind) (t2 : Option Word) (s : State) : (commitFail k t2 s).engine = .idle := rfl
@[simp] theorem commitFail_rx (k : FailKind) (t2 : Option Word) (s : State) : (commitFail k t2 s).rx = s.rx := rfl
@[simp] theorem commitFail_tx (k : FailKind) (t2 : Option Word) (s : State) : (commitFail k t2 s).tx = s.tx := rfl
@[simp] theorem commitFail_busLog (k : FailKind) (t2 : Option Word) (s : State) : (commitFail k t2 s).busLog = s.busLog := rfl
@[simp] theorem commitFail_busAnswers (k : FailKind) (t2 : Option Word) (s : State) : (commitFail k t2 s).busAnswers = s.busAnswers := rfl
@[simp] theorem commitFail_now (k : FailKind) (t2 : Option Word) (s : State) : (commitFail k t2 s).now = s.now := rfl
@[simp] theorem commitFail_draws (k : FailKind) (t2 : Option Word) (s : State) : (commitFail k t2 s).draws = s.draws := rfl
@[simp] theorem commitFail_resets (k : FailKind) (t2 : Option Word) (s : State) : (commitFail k t2 s).resets = s.resets := rfl
@[simp] theorem commitFail_program (k : FailKind) (t2 : Option Word) (s : State) : (commitFail k t2 s).program = s.program := rfl
@[simp] theorem commitFail_hostReads (k : FailKind) (t2 : Option Word) (s : State) : (commitFail k t2 s).hostReads = s.hostReads := rfl
@[simp] theorem commitFail_sched (k : FailKind) (t2 : Option Word) (s : State) : (commitFail k t2 s).sched = s.sched := rfl

/-! ### `State.resetBlock` -/

@[simp] theorem State.resetBlock_cfg (s : State) : s.resetBlock.cfg = s.cfg := rfl
@[simp] theorem State.resetBlock_illegal (s : State) : s.resetBlock.illegal = false := rfl
@[simp] theorem State.resetBlock_overrun (s : State) : s.resetBlock.overrun = false := rfl
@[simp] theorem State.resetBlock_recValid (s : State) : s.resetBlock.recValid = false := rfl
@[simp] theorem State.resetBlock_lastResult (s : State) : s.resetBlock.lastResult = .noneYet := rfl
@[simp] theorem State.resetBlock_recovered (s : State) : s.resetBlock.recovered = false := rfl
@[simp] theorem State.resetBlock_result (s : State) : s.resetBlock.result = 0 := rfl
@[simp] theorem State.resetBlock_acc (s : State) : s.resetBlock.acc = 0 := rfl
@[simp] theorem State.resetBlock_threshold (s : State) : s.resetBlock.threshold = Config.thresholdDefault := rfl
@[simp] theorem State.resetBlock_linkState (s : State) : s.resetBlock.linkState = .initializing := rfl
@[simp] theorem State.resetBlock_isHealthy (s : State) : s.resetBlock.isHealthy = false := rfl
@[simp] theorem State.resetBlock_badCnt (s : State) : s.resetBlock.badCnt = 0 := rfl
@[simp] theorem State.resetBlock_goodCnt (s : State) : s.resetBlock.goodCnt = Config.goodCntInit := rfl
@[simp] theorem State.resetBlock_lastGoodTs (s : State) : s.resetBlock.lastGoodTs = s.now := rfl
@[simp] theorem State.resetBlock_record (s : State) : s.resetBlock.record = Vector.replicate 10 0 := rfl
@[simp] theorem State.resetBlock_engine (s : State) : s.resetBlock.engine = .idle := rfl
@[simp] theorem State.resetBlock_rx (s : State) : s.resetBlock.rx = s.rx := rfl
@[simp] theorem State.resetBlock_tx (s : State) : s.resetBlock.tx = s.tx := rfl
@[simp] theorem State.resetBlock_busLog (s : State) : s.resetBlock.busLog = s.busLog := rfl
@[simp] theorem State.resetBlock_busAnswers (s : State) : s.resetBlock.busAnswers = s.busAnswers := rfl
@[simp] theorem State.resetBlock_now (s : State) : s.resetBlock.now = s.now := rfl
@[simp] theorem State.resetBlock_draws (s : State) : s.resetBlock.draws = s.draws := rfl
@[simp] theorem State.resetBlock_resets (s : State) : s.resetBlock.resets = s.resets + 1 := rfl
@[simp] theorem State.resetBlock_program (s : State) : s.resetBlock.program = s.program := rfl
@[simp] theorem State.resetBlock_hostReads (s : State) : s.resetBlock.hostReads = s.hostReads := rfl
@[simp] theorem State.resetBlock_sched (s : State) : s.resetBlock.sched = s.sched := rfl

end Sys2Proof.Machine
end

