-- ==== Sys2Proof/Laws/Ops.lean ====
section
/-! SUPPORT. One lemma per shared operation that says once everything it can do, so that proofs cite it and do not
unfold the operation. -/

namespace Sys2Proof.Machine

/-! ### Sequencer -/

theorem busy_eq_true_iff (s : State) : s.busy = true ↔ s.engine ≠ .idle := by
  unfold State.busy
  cases s.engine with
  | idle => simp [phaseOf]
  | decode d => simp [phaseOf]
  | discard k => simp [phaseOf]
  | recover g k => cases g <;> simp [phaseOf]
  | wait g k t => cases g <;> simp [phaseOf]
  | commit r => simp [phaseOf]

theorem busy_eq_false_iff (s : State) : s.busy = false ↔ s.engine = .idle := by
  rw [← Bool.not_eq_true, busy_eq_true_iff, not_not]

theorem busy_congr {s t : State} (h : t.engine = s.engine) : t.busy = s.busy := by
  unfold State.busy
  rw [h]

/-! ### Ports -/

theorem rxPop_eq_none_iff (s : State) : s.rxPop = none ↔ s.rx = [] := by
  unfold State.rxPop
  cases s.rx <;> simp

theorem rxPop_of_cons {s : State} {b : Byte} {q : List Byte} (h : s.rx = b :: q) :
    s.rxPop = some (b, { s with rx := q }) := by
  simp [State.rxPop, h]

theorem nextAnswer_of_cons {s : State} {r : List Byte} {rs : List (List Byte)} (h : s.busAnswers = r :: rs) :
    s.nextAnswer = r := by
  simp [State.nextAnswer, h]

theorem nextAnswer_of_nil {s : State} (h : s.busAnswers = []) : s.nextAnswer = Config.busAnswer s.draws := by
  simp [State.nextAnswer, h]

/-- `Send(k)` on the serial link touches the transmit stream only (R85, R111). -/
theorem send_serial {s : State} (h : s.cfg.mode = .serial) (k : SensorCmd) :
    send k s = { s with tx := s.tx ++ serFrame s.cfg k } := by
  simp [send, h, serSend, State.txSend]

/-- `Send(k)` on the bus makes one write transaction and touches nothing else (R100, R111). -/
theorem send_bus {s : State} (h : s.cfg.mode = .bus) (k : SensorCmd) :
    send k s = { s with
      busLog := s.busLog ++ [.write s.cfg.busDevAddr (ptrBytes (busPtr k) ++ busData s.cfg k)] } := by
  simp [send, h, busSend, State.busWrite]

/-- Everything `Send(k)` can change: the transmit stream or the bus log, each only by appending. -/
theorem send_spec (k : SensorCmd) (s : State) :
    ∃ bs txs, send k s = { s with tx := s.tx ++ bs, busLog := s.busLog ++ txs } ∧
      (s.cfg.mode = .serial → txs = []) ∧ (s.cfg.mode = .bus → bs = []) := by
  cases h : s.cfg.mode with
  | serial => exact ⟨serFrame s.cfg k, [], by rw [send_serial h]; simp, by simp, by simp⟩
  | bus =>
    exact ⟨[], [.write s.cfg.busDevAddr (ptrBytes (busPtr k) ++ busData s.cfg k)], by rw [send_bus h]; simp,
      by simp, by simp⟩

/-! ### The engine -/

/-- The two ways a failed decode can go on (R117). -/
theorem endFailed_spec (k : FailKind) (s : State) :
    (elapsed s.now s.lastGoodTs > s.threshold ∧ endFailed k s = s.setEngine (.recover .off k)) ∨
    (¬ elapsed s.now s.lastGoodTs > s.threshold ∧ endFailed k s = s.setEngine (.commit (.fail k none))) := by
  unfold endFailed
  by_cases h : elapsed s.now s.lastGoodTs > s.threshold
  · exact .inl ⟨h, if_pos h⟩
  · exact .inr ⟨h, if_neg h⟩

/-- After an operation of the decode only the sequencer changes, to one of these places (R113). -/
theorem afterDecode_spec (r : DecodeNext) (s : State) :
    ∃ e, afterDecode r s = s.setEngine e ∧
      ((∃ d, r = .goOn d ∧ e = .decode d) ∨ (∃ p, r = .done p ∧ e = .commit (.ok p s.now)) ∨
        (∃ k, r = .failed k ∧ (e = .recover .off k ∨ e = .commit (.fail k none))) ∨
        (∃ k, r = .failedDiscard k ∧ e = .discard k)) := by
  cases r with
  | goOn d => exact ⟨_, rfl, .inl ⟨d, rfl, rfl⟩⟩
  | done p => exact ⟨_, rfl, .inr (.inl ⟨p, rfl, rfl⟩)⟩
  | failed k =>
    rcases endFailed_spec k s with ⟨-, h⟩ | ⟨-, h⟩
    · exact ⟨_, h, .inr (.inr (.inl ⟨k, rfl, .inl rfl⟩))⟩
    · exact ⟨_, h, .inr (.inr (.inl ⟨k, rfl, .inr rfl⟩))⟩
  | failedDiscard k => exact ⟨_, rfl, .inr (.inr (.inr ⟨k, rfl, rfl⟩))⟩

/-- What a place of the decode that pops can do: hold on an empty queue, or take one byte (R40, R90). -/
theorem popTurn_spec (d : DecodeStep) (s : State) :
    (s.rx = [] ∧ popTurn d s = s) ∨
    ∃ b q, s.rx = b :: q ∧ popTurn d s = afterDecode (serialPopped d b) { s with rx := q } := by
  cases h : s.rx with
  | nil => exact .inl ⟨rfl, by simp [popTurn, (rxPop_eq_none_iff s).2 h]⟩
  | cons b q => exact .inr ⟨b, q, rfl, by simp [popTurn, rxPop_of_cons h]⟩

/-- Everything one engine step can do (R113, R114): nothing; one operation of the decode; a discard; a command of the
recovery; the end of a wait; or the commit. -/
theorem engineTurn_cases (s : State) :
    engineTurn s = s ∨
    (s.engine = .decode .look ∧ engineTurn s = afterDecode (serialLook s) s) ∨
    (∃ d b q, s.engine = .decode d ∧ popsNext s.engine = true ∧ s.rx = b :: q ∧
      engineTurn s = afterDecode (serialPopped d b) { s with rx := q }) ∨
    (s.engine = .decode .ready ∧ engineTurn s = readyTurn s) ∨
    (s.engine = .decode .data ∧ engineTurn s = dataTurn s) ∨
    (∃ k, s.engine = .discard k ∧ engineTurn s = endFailed k (s.rxDiscard Config.discardMax)) ∨
    (∃ g k, s.engine = .recover g k ∧ engineTurn s = (send (stageCmd g) s).setEngine (.wait g k s.now)) ∨
    (∃ g k t0, s.engine = .wait g k t0 ∧ elapsed s.now t0 ≥ stageSettle s.cfg g ∧
      engineTurn s = s.setEngine (afterStage g k s.now)) ∨
    (∃ r, s.engine = .commit r ∧ engineTurn s = commitRead r s) := by
  have pop : ∀ d, s.engine = .decode d → popsNext s.engine = true → engineTurn s = popTurn d s →
      engineTurn s = s ∨ ∃ d b q, s.engine = .decode d ∧ popsNext s.engine = true ∧ s.rx = b :: q ∧
        engineTurn s = afterDecode (serialPopped d b) { s with rx := q } := by
    intro d h hp he
    rcases popTurn_spec d s with ⟨-, ht⟩ | ⟨b, q, hq, ht⟩
    · exact .inl (he.trans ht)
    · exact .inr ⟨d, b, q, h, hp, hq, he.trans ht⟩
  obtain ⟨e, h⟩ : ∃ e, s.engine = e := ⟨_, rfl⟩
  cases e with
  | idle => exact .inl (by simp [engineTurn, h])
  | decode d =>
    cases d with
    | look => exact .inr (.inl ⟨h, by simp [engineTurn, h, decodeTurn]⟩)
    | header l =>
      exact (pop _ h (by simp [h, popsNext]) (by simp [engineTurn, h, decodeTurn])).imp id fun x => .inr (.inl x)
    | payload p m =>
      exact (pop _ h (by simp [h, popsNext]) (by simp [engineTurn, h, decodeTurn])).imp id fun x => .inr (.inl x)
    | escape p m =>
      exact (pop _ h (by simp [h, popsNext]) (by simp [engineTurn, h, decodeTurn])).imp id fun x => .inr (.inl x)
    | chk p m =>
      exact (pop _ h (by simp [h, popsNext]) (by simp [engineTurn, h, decodeTurn])).imp id fun x => .inr (.inl x)
    | trailer p m c =>
      exact (pop _ h (by simp [h, popsNext]) (by simp [engineTurn, h, decodeTurn])).imp id fun x => .inr (.inl x)
    | ready => exact .inr (.inr (.inr (.inl ⟨h, by simp [engineTurn, h, decodeTurn]⟩)))
    | data => exact .inr (.inr (.inr (.inr (.inl ⟨h, by simp [engineTurn, h, decodeTurn]⟩))))
  | discard k => exact .inr (.inr (.inr (.inr (.inr (.inl ⟨k, h, by simp [engineTurn, h]⟩)))))
  | recover g k => exact .inr (.inr (.inr (.inr (.inr (.inr (.inl ⟨g, k, h, by simp [engineTurn, h]⟩))))))
  | wait g k t0 =>
    by_cases ht : elapsed s.now t0 ≥ stageSettle s.cfg g
    · exact .inr (.inr (.inr (.inr (.inr (.inr (.inr (.inl
        ⟨g, k, t0, h, ht, by simp only [engineTurn, h, waitTurn, if_pos ht]⟩)))))))
    · exact .inl (by simp only [engineTurn, h, waitTurn, if_neg ht])
  | commit r => exact .inr (.inr (.inr (.inr (.inr (.inr (.inr (.inr ⟨r, h, by simp [engineTurn, h]⟩)))))))

/-! ### Commands -/

/-- Everything a command can do when it completes, and every command completes (R59). -/
theorem exec_spec (i : Instr) (s : State) :
    (∃ v, exec i s = .next (s.setResult v) ∧
      ((∃ a b, i = .crc8 a b) ∨ (∃ a b c, i = .crcchk a b c) ∨ (∃ c, i = .stuff c) ∨ (∃ c, i = .unesc c))) ∨
    (∃ v, exec i s = .next (s.setAcc v) ∧ (i = .sumclr ∨ ∃ c, i = .sumadd c)) ∨
    (∃ k, exec i s = .next (send k s) ∧ (i = .pwron ∨ i = .pwroff ∨ i = .clean ∨ i = .reqdata)) ∨
    (exec i s = .next (s.setEngine (.decode (decodeStart s.cfg.mode))) ∧ i = .read) ∨
    (exec i s = .next { s with
      linkState := .initializing, isHealthy := false, badCnt := 0, goodCnt := Config.goodCntInit
      lastGoodTs := s.now } ∧ i = .init) := by
  cases i with
  | crc8 a b => exact .inl ⟨_, rfl, .inl ⟨a, b, rfl⟩⟩
  | crcchk a b c => exact .inl ⟨_, rfl, .inr (.inl ⟨a, b, c, rfl⟩)⟩
  | sumclr => exact .inr (.inl ⟨_, rfl, .inl rfl⟩)
  | sumadd c => exact .inr (.inl ⟨_, rfl, .inr ⟨c, rfl⟩⟩)
  | stuff c => exact .inl ⟨_, rfl, .inr (.inr (.inl ⟨c, rfl⟩))⟩
  | unesc c => exact .inl ⟨_, rfl, .inr (.inr (.inr ⟨c, rfl⟩))⟩
  | pwron => exact .inr (.inr (.inl ⟨_, rfl, .inl rfl⟩))
  | pwroff => exact .inr (.inr (.inl ⟨_, rfl, .inr (.inl rfl)⟩))
  | clean => exact .inr (.inr (.inl ⟨_, rfl, .inr (.inr (.inl rfl))⟩))
  | reqdata => exact .inr (.inr (.inl ⟨_, rfl, .inr (.inr (.inr rfl))⟩))
  | read => exact .inr (.inr (.inr (.inl ⟨rfl, rfl⟩)))
  | init => exact .inr (.inr (.inr (.inr ⟨rfl, rfl⟩)))

/-! ### The host -/

theorem offsetOf_base {p : Params} {off : Nat} (h : off < 0x80) : offsetOf p (p.baseAddr + off) = some off := by
  unfold offsetOf
  rw [if_pos ⟨Nat.le_add_right _ _, by omega⟩, Nat.add_sub_cancel_left]

theorem offsetOf_self (p : Params) : offsetOf p p.baseAddr = some 0 := by
  simpa using offsetOf_base (p := p) (off := 0) (by decide)

theorem wholeWord_iff (off size : Nat) : wholeWord off size = true ↔ size = 4 ∧ off % 4 = 0 := by
  simp [wholeWord]

theorem regAt_writable {off : Nat} {r : Reg} (h : regAt off = some r) (hw : r.writable = true) :
    (off = 0x00 ∧ r = .cmd) ∨ (off = 0x04 ∧ r = .status) ∨ (off = 0x10 ∧ r = .threshold) := by
  unfold regAt at h
  split at h <;> simp_all <;> subst h <;> simp_all [Reg.writable]

/-- What `MemWrite(off, 4, v)` can do (R45 to R47, R139). -/
theorem hostWrite_spec (off : Nat) (v : Word) (s : State) :
    (off = 0x00 ∧ s.busy = false ∧ hostWrite off v s = acceptCommand v s) ∨
    (off = 0x04 ∧ s.busy = false ∧ hostWrite off v s = .next (s.clearSticky v)) ∨
    (off = 0x10 ∧ s.busy = false ∧ hostWrite off v s = .next (s.setThreshold v)) ∨
    ((off = 0x00 ∨ off = 0x04 ∨ off = 0x10) ∧ s.busy = true ∧ hostWrite off v s = .next s.raiseOverrun) ∨
    (off ≠ 0x00 ∧ off ≠ 0x04 ∧ off ≠ 0x10 ∧ hostWrite off v s = .fault .unmappedOrReadonly) := by
  by_cases h0 : off = 0x00
  · subst h0
    cases hb : s.busy
    · exact .inl ⟨rfl, rfl, by simp [hostWrite, regAt, hb]⟩
    · exact .inr (.inr (.inr (.inl ⟨.inl rfl, rfl, by simp [hostWrite, regAt, hb]⟩)))
  by_cases h4 : off = 0x04
  · subst h4
    cases hb : s.busy
    · exact .inr (.inl ⟨rfl, rfl, by simp [hostWrite, regAt, hb]⟩)
    · exact .inr (.inr (.inr (.inl ⟨.inr (.inl rfl), rfl, by simp [hostWrite, regAt, hb]⟩)))
  by_cases h10 : off = 0x10
  · subst h10
    cases hb : s.busy
    · exact .inr (.inr (.inl ⟨rfl, rfl, by simp [hostWrite, regAt, hb]⟩))
    · exact .inr (.inr (.inr (.inl ⟨.inr (.inr rfl), rfl, by simp [hostWrite, regAt, hb]⟩)))
  refine .inr (.inr (.inr (.inr ⟨h0, h4, h10, ?_⟩)))
  unfold hostWrite
  split
  · next h => exact absurd (regAt_writable h rfl) (by simp [h0])
  · next h => exact absurd (regAt_writable h rfl) (by simp [h4])
  · next h => exact absurd (regAt_writable h rfl) (by simp [h10])
  · rfl

/-- Accepting a command word runs the command or sets `ILLEGAL`; it never stops (R58, R60). -/
theorem acceptCommand_spec (w : Word) (s : State) :
    (∃ i, decode w = .ok i ∧ acceptCommand w s = exec i s) ∨
    ((∃ e, decode w = .error e) ∧ acceptCommand w s = .next s.raiseIllegal) := by
  unfold acceptCommand
  cases h : decode w with
  | ok i => exact .inl ⟨i, rfl, rfl⟩
  | error e => exact .inr ⟨⟨e, rfl⟩, rfl⟩

/-- Everything a host access can do when it answers a next state. -/
theorem hostAccess_next {a : Access} {s t : State} (h : hostAccess a s = .next t) :
    t = s ∨ (∃ off r, regAt off = some r ∧ t = s.logRead off (readReg r s)) ∨
    (s.busy = true ∧ t = s.raiseOverrun) ∨
    (∃ addr v, s.busy = false ∧ a = .write addr 4 v ∧ offsetOf s.cfg addr = some 0x00 ∧
      ((∃ i, decode v = .ok i ∧ exec i s = .next t) ∨ t = s.raiseIllegal)) ∨
    (∃ v, s.busy = false ∧ (t = s.clearSticky v ∨ t = s.setThreshold v)) := by
  cases a with
  | read addr size =>
    simp only [hostAccess] at h
    split at h
    · exact .inl (Host.Outcome.next.inj h).symm
    · split at h
      · simp only [hostRead] at h
        split at h
        · cases h
        · next r hr => exact .inr (.inl ⟨_, r, hr, (Host.Outcome.next.inj h).symm⟩)
      · cases h
  | write addr size v =>
    simp only [hostAccess] at h
    split at h
    · exact .inl (Host.Outcome.next.inj h).symm
    · next off ho =>
      split at h
      · next hw =>
        obtain ⟨rfl, -⟩ := (wholeWord_iff _ _).1 hw
        rcases hostWrite_spec off v s with ⟨rfl, hb, e⟩ | ⟨-, hb, e⟩ | ⟨-, hb, e⟩ | ⟨-, hb, e⟩ | ⟨-, -, -, e⟩
        · refine .inr (.inr (.inr (.inl ⟨addr, v, hb, rfl, ho, ?_⟩)))
          rw [e] at h
          rcases acceptCommand_spec v s with ⟨i, hi, e'⟩ | ⟨-, e'⟩
          · exact .inl ⟨i, hi, e' ▸ h⟩
          · rw [e'] at h
            exact .inr (Host.Outcome.next.inj h).symm
        · rw [e] at h
          exact .inr (.inr (.inr (.inr ⟨v, hb, .inl (Host.Outcome.next.inj h).symm⟩)))
        · rw [e] at h
          exact .inr (.inr (.inr (.inr ⟨v, hb, .inr (Host.Outcome.next.inj h).symm⟩)))
        · rw [e] at h
          exact .inr (.inr (.inl ⟨hb, (Host.Outcome.next.inj h).symm⟩))
        · rw [e] at h
          cases h
      · cases h

/-! ### Turns and steps -/

theorem nextTurn_spec (s : State) :
    ∃ ts, (nextTurn s).2 = { s with sched := ts } ∧ ts = s.sched.tail := by
  refine ⟨s.sched.tail, ?_, rfl⟩
  unfold nextTurn
  cases h : s.sched with
  | nil => cases s; simp_all
  | cons t ts => simp

theorem nextTurn_state (s : State) : (nextTurn s).2 = { s with sched := s.sched.tail } := by
  obtain ⟨ts, h, rfl⟩ := nextTurn_spec s
  exact h

/-- Everything a step can do when it answers a next state, in terms of the turn taken. -/
theorem step_next {s t : State} (h : step s = .next t) :
    ((nextTurn s).1 = .host ∧ hostTurn { s with sched := s.sched.tail } = .next t) ∨
    ((nextTurn s).1 = .engine ∧ t = engineTurn { s with sched := s.sched.tail }) ∨
    (∃ bs, (nextTurn s).1 = .peer bs ∧ t = { s with sched := s.sched.tail, rx := s.rx ++ bs }) ∨
    (∃ bs, (nextTurn s).1 = .answer bs ∧ t = { s with sched := s.sched.tail, busAnswers := s.busAnswers ++ [bs] }) ∨
    (∃ d, (nextTurn s).1 = .tick d ∧ t = { s with sched := s.sched.tail, now := s.now + d }) ∨
    ((nextTurn s).1 = .reset ∧ t = State.resetBlock { s with sched := s.sched.tail }) := by
  unfold step at h
  rw [nextTurn_state] at h
  cases hn : (nextTurn s).1 with
  | host => rw [hn] at h; exact .inl ⟨rfl, h⟩
  | engine => rw [hn] at h; exact .inr (.inl ⟨rfl, (Host.Outcome.next.inj h).symm⟩)
  | peer bs => rw [hn] at h; exact .inr (.inr (.inl ⟨bs, rfl, (Host.Outcome.next.inj h).symm⟩))
  | answer bs => rw [hn] at h; exact .inr (.inr (.inr (.inl ⟨bs, rfl, (Host.Outcome.next.inj h).symm⟩)))
  | tick d => rw [hn] at h; exact .inr (.inr (.inr (.inr (.inl ⟨d, rfl, (Host.Outcome.next.inj h).symm⟩))))
  | reset => rw [hn] at h; exact .inr (.inr (.inr (.inr (.inr ⟨rfl, (Host.Outcome.next.inj h).symm⟩))))

/-- Everything the host's turn can do when it answers a next state. -/
theorem hostTurn_next {s t : State} (h : hostTurn s = .next t) :
    (s.program = [] ∧ t = s) ∨
    (∃ ops, s.program = .poll :: ops ∧ t = pollTurn ops s) ∨
    (∃ a ops, s.program = .access a :: ops ∧ hostAccess a { s with program := ops } = .next t) := by
  unfold hostTurn at h
  split at h
  · next hp => exact .inl ⟨hp, (Host.Outcome.next.inj h).symm⟩
  · next a ops hp => exact .inr (.inr ⟨a, ops, hp, h⟩)
  · next ops hp => exact .inr (.inl ⟨ops, hp, (Host.Outcome.next.inj h).symm⟩)

/-- A step while the engine runs alone: nothing listed and a READ in progress. -/
theorem step_of_engine {s : State} (hs : s.sched = []) (hb : s.busy = true) : step s = .next (engineTurn s) := by
  simp [step, nextTurn, hs, defaultTurn, hb, takeTurn]

theorem runFor_zero (s : State) : runFor 0 s = .next s := rfl

theorem runFor_succ {s t : State} (n : Nat) (h : step s = .next t) : runFor (n + 1) s = runFor n t := by
  rw [runFor, h]

theorem runFor_succ_fault {s : State} {e : Fault} (n : Nat) (h : step s = .fault e) :
    runFor (n + 1) s = .fault e := by
  rw [runFor, h]

theorem runFor_succ_refused {s : State} {e : Refusal} (n : Nat) (h : step s = .refused e) :
    runFor (n + 1) s = .refused e := by
  rw [runFor, h]

/-- A run in two parts. -/
theorem runFor_add {s t : State} {m : Nat} (n : Nat) (h : runFor m s = .next t) :
    runFor (m + n) s = runFor n t := by
  induction m generalizing s with
  | zero =>
    rw [runFor_zero] at h
    cases h
    rw [Nat.zero_add]
  | succ m ih =>
    cases hs : step s with
    | next u =>
      rw [runFor_succ m hs] at h
      rw [Nat.add_right_comm, runFor_succ _ hs]
      exact ih h
    | fault e =>
      rw [runFor_succ_fault m hs] at h
      cases h
    | refused e =>
      rw [runFor_succ_refused m hs] at h
      cases h

/-- A run of one step. -/
theorem runFor_one {s t : State} (h : step s = .next t) : runFor 1 s = .next t := by
  rw [runFor_succ 0 h, runFor_zero]

end Sys2Proof.Machine
end

