-- ==== Sys2Proof/Laws/Codec.lean ====
section
/-! SUPPORT. What the codec's and the link unit's shared operations can answer, said once for the proofs that cite them:
saturation and elapsed time, byte sums, the bus checks, the push of a payload byte, and the phases. -/

namespace Sys2Proof.Machine

/-! ### Numbers -/

/-- `sat32` as a number (R7). -/
theorem sat32_toNat (n : Nat) : (sat32 n).toNat = min n 0xFFFFFFFF := by
  unfold sat32
  rw [BitVec.toNat_ofNat]
  omega

/-- The elapsed time as a number (R117). -/
theorem elapsed_toNat (t t0 : Word) : (elapsed t t0).toNat = (t.toNat + 2 ^ 32 - t0.toNat) % 2 ^ 32 := by
  unfold elapsed
  rw [BitVec.toNat_sub]
  congr 1
  have := t0.isLt
  omega

theorem foldl_add_eq (p : List Byte) (a : Byte) : p.foldl (· + ·) a = a + byteSum p := by
  unfold byteSum
  induction p generalizing a with
  | nil => exact (BitVec.add_zero a).symm
  | cons x p ih =>
    simp only [List.foldl_cons]
    rw [ih (a + x), ih (0 + x), show (0 : Byte) + x = x from BitVec.zero_add x, BitVec.add_assoc]

@[simp] theorem byteSum_nil : byteSum [] = 0 := rfl

theorem byteSum_cons (x : Byte) (p : List Byte) : byteSum (x :: p) = x + byteSum p := by
  show p.foldl (· + ·) (0 + x) = _
  rw [foldl_add_eq, show (0 : Byte) + x = x from BitVec.zero_add x]

theorem byteSum_append (p q : List Byte) : byteSum (p ++ q) = byteSum p + byteSum q := by
  induction p with
  | nil => exact (BitVec.zero_add _).symm
  | cons x p ih => rw [List.cons_append, byteSum_cons, byteSum_cons, ih, BitVec.add_assoc]

/-! ### The bus checks -/

/-- Groups that pass give two payload bytes for every three wire bytes (R108). -/
theorem busGroups_length : ∀ d p : List Byte, busGroups d = some p → 3 * p.length = 2 * d.length := by
  intro d
  induction d using busGroups.induct with
  | case1 => intro p h; cases h; rfl
  | case2 a b r ih =>
    intro p h
    rw [busGroups, if_pos rfl] at h
    cases hr : busGroups r with
    | none => rw [hr] at h; cases h
    | some q =>
      rw [hr] at h
      cases h
      have := ih _ hr
      simp only [List.length_cons]
      omega
  | case3 a b c r hne => intro p h; rw [busGroups, if_neg hne] at h; cases h
  | case4 t h1 h2 => intro p h; rw [busGroups] at h; cases h; exact h1; exact h2

/-- Everything the data transaction can lead to: the wrong size, a bad group, or 40 payload bytes (R104, R105). -/
theorem busVerify_spec (d : List Byte) :
    (d.length ≠ Config.dataLen ∧ busVerify d = .failed .transactionSizeMismatch) ∨
    (d.length = Config.dataLen ∧ busGroups d = none ∧ busVerify d = .failed .checksumMismatch) ∨
    ∃ p, d.length = Config.dataLen ∧ busGroups d = some p ∧ p.length = Config.payloadLen ∧ busVerify d = .done p := by
  by_cases h : d.length = Config.dataLen
  · cases hg : busGroups d with
    | none => exact .inr (.inl ⟨h, rfl, by simp only [busVerify, hg, if_neg (not_not.2 h)]⟩)
    | some p =>
      refine .inr (.inr ⟨p, h, rfl, ?_, by simp only [busVerify, hg, if_neg (not_not.2 h)]⟩)
      have := busGroups_length d p hg
      simp only [Config.dataLen, Config.payloadLen] at h ⊢
      omega
  · exact .inl ⟨h, if_pos h⟩

/-! ### The serial decode -/

/-- Where one more de-stuffed byte leads (step 5 of R90). -/
theorem serialPush_spec (p : List Byte) (sum x : Byte) :
    (p.length + 1 < Config.payloadLen ∧ serialPush p sum x = .goOn (.payload (p ++ [x]) (sum + x))) ∨
    (Config.payloadLen ≤ p.length + 1 ∧ serialPush p sum x = .goOn (.chk (p ++ [x]) (sum + x))) := by
  unfold serialPush
  rw [List.length_append, List.length_singleton]
  by_cases h : p.length + 1 < Config.payloadLen
  · exact .inl ⟨h, if_pos h⟩
  · exact .inr ⟨Nat.le_of_not_lt h, if_neg h⟩

/-- A byte's wire form is one or two bytes (R82). -/
theorem stuffByte_length (b : Byte) : 1 ≤ (stuffByte b).length ∧ (stuffByte b).length ≤ 2 := by
  unfold stuffByte
  split <;> exact ⟨by simp, by simp⟩

theorem stuffBytes_cons (b : Byte) (p : List Byte) : stuffBytes (b :: p) = stuffByte b ++ stuffBytes p := rfl

/-- A stuffed list is no shorter than the list. -/
theorem length_le_stuffBytes (p : List Byte) : p.length ≤ (stuffBytes p).length := by
  induction p with
  | nil => exact Nat.zero_le _
  | cons b p ih =>
    rw [stuffBytes_cons, List.length_append, List.length_cons]
    have := (stuffByte_length b).1
    omega

/-! ### Phases -/

/-- Only the idle sequencer is in the phase `IDLE` (R33). -/
theorem phaseOf_eq_idle_iff (e : Engine) : phaseOf e = .idle ↔ e = .idle := by
  constructor
  · intro h
    cases e with
    | idle => rfl
    | recover g k => cases g <;> cases h
    | wait g k t0 => cases g <;> cases h
    | decode d => cases h
    | discard k => cases h
    | commit r => cases h
  · rintro rfl
    rfl

/-- The phase `COMMIT` carries what the READ ends with (R113). -/
theorem phaseOf_eq_commit_iff (e : Engine) : phaseOf e = .commit ↔ ∃ r, e = .commit r := by
  constructor
  · intro h
    cases e with
    | commit r => exact ⟨r, rfl⟩
    | recover g k => cases g <;> cases h
    | wait g k t0 => cases g <;> cases h
    | decode d => cases h
    | discard k => cases h
    | idle => cases h
  · rintro ⟨r, rfl⟩
    rfl

/-- What `Wait(T)` can do: hold, or end with the next stage or the commit (R43, R118). -/
theorem waitTurn_spec (g : Stage) (k : FailKind) (t0 : Word) (s : State) :
    ((elapsed s.now t0).toNat < (stageSettle s.cfg g).toNat ∧ waitTurn g k t0 s = s) ∨
    ((stageSettle s.cfg g).toNat ≤ (elapsed s.now t0).toNat ∧
      waitTurn g k t0 s = s.setEngine (afterStage g k s.now)) := by
  unfold waitTurn
  by_cases h : elapsed s.now t0 ≥ stageSettle s.cfg g
  · exact .inr ⟨BitVec.le_def.1 h, if_pos h⟩
  · exact .inl ⟨BitVec.lt_def.1 (BitVec.not_le.1 h), if_neg h⟩

end Sys2Proof.Machine
end

