-- ==== Sys2Proof/Laws/PerInstr.lean ====
section
/-! SUPPORT. The family of statements made once for every constructor of `Instr`: the fields a command is encoded with
are legal ones (R59, R60, R71). -/

namespace Sys2Proof.Laws.EncodesWellFormed

/-- The fields of the command's own word fit a row of the opcode map (R59). -/
def Statement (i : Instr) : Prop :=
  (instrFields i).wf = true

theorem crc8 (a b : Byte) : Statement (.crc8 a b) := by
  simp [Statement, instrFields, Fields.wf, opcodeRows, OpcodeRow.admits]

theorem crcchk (a b c : Byte) : Statement (.crcchk a b c) := by
  simp [Statement, instrFields, Fields.wf, opcodeRows, OpcodeRow.admits]

theorem sumclr : Statement .sumclr := by
  simp [Statement, instrFields, Fields.wf, opcodeRows, OpcodeRow.admits]

theorem sumadd (c : Byte) : Statement (.sumadd c) := by
  simp [Statement, instrFields, Fields.wf, opcodeRows, OpcodeRow.admits]

theorem stuff (c : Byte) : Statement (.stuff c) := by
  simp [Statement, instrFields, Fields.wf, opcodeRows, OpcodeRow.admits]

theorem unesc (c : Byte) : Statement (.unesc c) := by
  simp [Statement, instrFields, Fields.wf, opcodeRows, OpcodeRow.admits]

theorem pwron : Statement .pwron := by
  simp [Statement, instrFields, Fields.wf, opcodeRows, OpcodeRow.admits]

theorem pwroff : Statement .pwroff := by
  simp [Statement, instrFields, Fields.wf, opcodeRows, OpcodeRow.admits]

theorem clean : Statement .clean := by
  simp [Statement, instrFields, Fields.wf, opcodeRows, OpcodeRow.admits]

theorem reqdata : Statement .reqdata := by
  simp [Statement, instrFields, Fields.wf, opcodeRows, OpcodeRow.admits]

theorem read : Statement .read := by
  simp [Statement, instrFields, Fields.wf, opcodeRows, OpcodeRow.admits]

theorem init : Statement .init := by
  simp [Statement, instrFields, Fields.wf, opcodeRows, OpcodeRow.admits]

end Sys2Proof.Laws.EncodesWellFormed
end

