-- ==== Sys2Proof/Tests/Slice0.lean ====
section
/-! SUPPORT. The model's own tests: ill-formed terms that each check refuses; one word per command, written out from
the tables of 30_encoding.md, decoded; one or two small tests per command, with the values of the spec's rules and of
95_test_vectors.md; and for every obligation with hypotheses a concrete state and operands that meet them, clause by
clause and at the boundaries of the clauses. -/

set_option maxRecDepth 4000

namespace Sys2Proof.Tests

open Sys2Proof.Machine

/-! ### Helpers -/

/-- The block in serial mode, right after reset at time 0. -/
def ser : State := State.reset

/-- The block in bus mode, right after reset at time 0. -/
def bus : State := State.resetAt { Config.defaultParams with mode := .bus } 0

/-- The next state, if there is one. -/
def nextOf (o : Host.Outcome State Fault Refusal) : Option State :=
  match o with
  | .next t => some t
  | _ => none

/-- The fault, if there is one. -/
def faultOf (o : Host.Outcome State Fault Refusal) : Option Fault :=
  match o with
  | .fault e => some e
  | _ => none

/-- A decoded word, if it is legal. -/
def legal (w : Word) : Option Instr :=
  (decode w).toOption

/-- A serial block whose host is about to write `w` to `CMD`. -/
def writing (w : Word) : State :=
  { ser with program := [.access (.write 0 4 w)] }

/-- A serial block in the middle of a READ, at `e`. -/
def reading (e : Engine) : State :=
  { ser with engine := e }

/-- The good response frame for a payload of 40 zero bytes, `7E 00 03 00 28 [00]×40 D4 7E` (95_test_vectors.md, item 2
of section 1.3). -/
def zeroFrame : List Byte :=
  [0x7E, 0x00, 0x03, 0x00, 0x28] ++ List.replicate 40 0x00 ++ [0xD4, 0x7E]

/-- Twenty groups `00 00 81` (95_test_vectors.md, section 0). -/
def zeroGroups : List Byte :=
  (List.replicate 20 [0x00, 0x00, 0x81]).flatten

/-! ### Ill-formed terms are refused -/

theorem test_wf_unassigned_opcode : (⟨0x00, 0, 0, 0⟩ : Fields).wf = false := by decide

theorem test_wf_opcode_after_last : (⟨0x31, 0, 0, 0⟩ : Fields).wf = false := by decide

theorem test_wf_field_a : (⟨0x05, 1, 0, 0x11⟩ : Fields).wf = false := by decide

theorem test_wf_field_b : (⟨0x06, 0, 1, 0x31⟩ : Fields).wf = false := by decide

theorem test_wf_field_c : (⟨0x01, 0xBE, 0xEF, 1⟩ : Fields).wf = false := by decide

theorem test_wf_start_data_too_long :
    Params.wf { Config.defaultParams with serialStartData := List.replicate 256 0 } = false := by decide +kernel

theorem test_wf_operand_too_big : (Stmt.sumadd 256).wf = false := by decide

theorem test_wf_offset_outside : (Stmt.rd 0x80).wf = false := by decide

theorem test_wf_value_too_wide : (Stmt.setthr (2 ^ 32)).wf = false := by decide

theorem test_wf_fcs_operand : (Stmt.fcs [0x00, 0x100]).wf = false := by decide

/-- The other statements of R71, each with an operand, an offset or a value out of its range. -/
theorem test_wf_other_statements :
    (Stmt.wr 0x80 0).wf = false ∧ (Stmt.wr 0x10 (2 ^ 32)).wf = false ∧ (Stmt.crc8 0 256).wf = false ∧
    (Stmt.crcchk 0 0 256).wf = false ∧ (Stmt.stuff 256).wf = false ∧ (Stmt.unesc 256).wf = false := by decide

/-- The other rows of R59 with fields "must be 0", each with one of them not 0. -/
theorem test_wf_other_rows :
    (⟨0x03, 0, 0, 1⟩ : Fields).wf = false ∧ (⟨0x04, 1, 0, 0⟩ : Fields).wf = false ∧
    (⟨0x10, 0, 1, 0⟩ : Fields).wf = false ∧ (⟨0x11, 0, 0, 1⟩ : Fields).wf = false ∧
    (⟨0x12, 1, 0, 0⟩ : Fields).wf = false ∧ (⟨0x13, 0, 1, 0⟩ : Fields).wf = false ∧
    (⟨0x20, 0, 0, 1⟩ : Fields).wf = false ∧ (⟨0x30, 1, 0, 0⟩ : Fields).wf = false := by decide

/-! ### One word per command, from the tables of R59 and R71 -/

theorem test_decode_crc8 : legal 0b00000001_10111110_11101111_00000000 = some (.crc8 0xBE 0xEF) := by decide

theorem test_decode_crcchk : legal 0b00000010_00000000_00000001_10110000 = some (.crcchk 0x00 0x01 0xB0) := by decide

theorem test_decode_sumclr : legal 0b00000011_00000000_00000000_00000000 = some .sumclr := by decide

theorem test_decode_sumadd : legal 0b00000100_00000000_00000000_00000011 = some (.sumadd 0x03) := by decide

theorem test_decode_stuff : legal 0b00000101_00000000_00000000_01111110 = some (.stuff 0x7E) := by decide

theorem test_decode_unesc : legal 0b00000110_00000000_00000000_00110001 = some (.unesc 0x31) := by decide

theorem test_decode_pwron : legal 0b00010000_00000000_00000000_00000000 = some .pwron := by decide

theorem test_decode_pwroff : legal 0b00010001_00000000_00000000_00000000 = some .pwroff := by decide

theorem test_decode_clean : legal 0b00010010_00000000_00000000_00000000 = some .clean := by decide

theorem test_decode_reqdata : legal 0b00010011_00000000_00000000_00000000 = some .reqdata := by decide

theorem test_decode_read : legal 0b00100000_00000000_00000000_00000000 = some .read := by decide

theorem test_decode_init : legal 0b00110000_00000000_00000000_00000000 = some .init := by decide

theorem test_decode_table_word : decodeTableWord 32 0x20000000 = some .read := by decide

/-! ### Commands (values of the rules and of 95_test_vectors.md) -/

theorem test_crc8_catalogue : (nextOf (exec (.crc8 0xBE 0xEF) ser)).map (·.result) = some 0x92 := by decide +kernel

theorem test_crc8_first_byte_first : (nextOf (exec (.crc8 0x01 0x00) ser)).map (·.result) = some 0x75 := by
  decide +kernel

theorem test_crcchk_zero_group_fails :
    (nextOf (exec (.crcchk 0x00 0x00 0x00) { ser with result := 7 })).map (·.result) = some 0 := by decide +kernel

theorem test_crcchk_ready : (nextOf (exec (.crcchk 0x00 0x01 0xB0) ser)).map (·.result) = some 1 := by decide +kernel

theorem test_sumclr : (nextOf (exec .sumclr { ser with acc := 0x55 })).map sumaccWord = some 0x0000FF00 := by decide

theorem test_sumadd_wraps : (nextOf (exec (.sumadd 0x01) { ser with acc := 0xFF })).map (·.acc) = some 0x00 := by decide

theorem test_stuff_reserved : (nextOf (exec (.stuff 0x7E) ser)).map (·.result) = some 0x00027D5E := by decide

theorem test_stuff_plain : (nextOf (exec (.stuff 0x41) ser)).map (·.result) = some 0x00014100 := by decide

theorem test_unesc_good : (nextOf (exec (.unesc 0x33) ser)).map (·.result) = some 0x13 := by decide

theorem test_unesc_malformed : (nextOf (exec (.unesc 0x7D) ser)).map (·.result) = some 0x100 := by decide

theorem test_pwron_serial :
    (nextOf (exec .pwron ser)).map (·.tx) = some [0x7E, 0x00, 0x00, 0x02, 0x02, 0x01, 0xFA, 0x7E] := by decide

theorem test_pwron_bus_with_data :
    (nextOf (exec .pwron { bus with cfg := { bus.cfg with busStartData := some (0x12, 0x34) } })).map (·.busLog)
      = some [.write 0 [0x00, 0x10, 0x12, 0x34, 0x37]] := by decide +kernel

theorem test_pwroff_serial :
    (nextOf (exec .pwroff ser)).map (·.tx) = some [0x7E, 0x00, 0x01, 0x00, 0xFE, 0x7E] := by decide

theorem test_pwroff_bus : (nextOf (exec .pwroff bus)).map (·.busLog) = some [.write 0 [0x01, 0x04]] := by decide

theorem test_clean_serial :
    (nextOf (exec .clean ser)).map (·.tx) = some [0x7E, 0x00, 0x56, 0x00, 0xA9, 0x7E] := by decide

theorem test_clean_bus : (nextOf (exec .clean bus)).map (·.busLog) = some [.write 0 [0x56, 0x07]] := by decide

theorem test_reqdata_serial :
    (nextOf (exec .reqdata ser)).map (·.tx) = some [0x7E, 0x00, 0x03, 0x00, 0xFC, 0x7E] := by decide

theorem test_reqdata_bus : (nextOf (exec .reqdata bus)).map (·.busLog) = some [.write 0 [0x02, 0x02]] := by decide

/-- R113, R125: on an empty queue the decode fails at once, and at time 0 nothing is stale. -/
theorem test_read_no_data :
    (nextOf (step (reading (.decode .look)))).map (·.engine) = some (.commit (.fail .noDataAvailable none)) := by decide

/-- R90, R99: the all-zero response decodes, and the queue is left empty (vector SZ). -/
theorem test_read_zero_frame : serialDecodeRef zeroFrame = .ok (List.replicate 40 0x00) [] := by decide +kernel

theorem test_init :
    (nextOf (exec .init { ser with now := 500, badCnt := 9, goodCnt := 4, linkState := .degraded })).map
      (fun t => (healthWord t, t.badCnt, t.goodCnt, t.lastGoodTs)) = some (0, 0, 1, 500) := by decide

/-- R150: `STATUS` after reset. -/
theorem test_reset_status : statusWord State.reset = 0x00000F00 := by decide

/-- R72: `FCS` runs SUMCLR and then one SUMADD per byte. -/
theorem test_assemble_fcs :
    assemble 0 (.fcs [0x00, 0x03]) = [wrOp 0 0 0x03000000, wrOp 0 0 0x04000000, wrOp 0 0 0x04000003] := by decide

/-- R138: a data answer both short and with a bad CRC is a size mismatch. -/
theorem test_bus_short_answer : busVerify [0x00, 0x00, 0x00] = .failed .transactionSizeMismatch := by decide

/-- R101: twenty good groups pass. -/
theorem test_bus_good_answer : busVerify zeroGroups = .done (List.replicate 40 0x00) := by decide +kernel

/-! ### Witnesses: states and operands that meet the hypotheses of the obligations -/

theorem witness_StepRunsTheDecodedCommand :
    (writing 0x01BEEF00).busy = false ∧ (nextTurn (writing 0x01BEEF00)).1 = .host ∧
    (writing 0x01BEEF00).program = .access (.write (writing 0x01BEEF00).cfg.baseAddr 4 0x01BEEF00) :: [] ∧
    legal 0x01BEEF00 = some (.crc8 0xBE 0xEF) := by decide

theorem witness_IllegalWordOnlySetsIllegal :
    (writing 0x01000001).busy = false ∧ (nextTurn (writing 0x01000001)).1 = .host ∧
    (writing 0x01000001).program = .access (.write (writing 0x01000001).cfg.baseAddr 4 0x01000001) :: [] ∧
    (fieldsOf 0x01000001).wf = false ∧ (fieldsOf 0x00000000).wf = false := by decide

theorem witness_PlacedCommandRunsNext : decodeTableWord 32 0x01000000 = some (.crc8 0x00 0x00) := by decide

theorem witness_CrcchkCommand : crc8 0x00 0x01 = 0xB0 ∧ crc8 0x00 0x01 ≠ 0xB1 := by decide +kernel

theorem witness_SumaddCommand : ({ ser with acc := 0xFF } : State).acc = 0xFF := by decide

theorem witness_CrcBitFlipSyndromes : 0 < 16 ∧ 15 < 16 := by decide

theorem witness_FrameChecksumLaws :
    [1, 2].Perm [2, 1] ∧ 0 < ([5, 6] : List Byte).length ∧ (7 : Byte) ≠ byteAt [5, 6] 0 ∧
    1 < ([5, 6] : List Byte).length ∧ (7 : Byte) ≠ byteAt [5, 6] 1 := by decide

theorem witness_HostReadsHaveNoSideEffect :
    regAt 0x00 = some .cmd ∧ regAt 0x04 = some .status ∧ regAt 0x08 = some .result ∧ regAt 0x0C = some .sumacc ∧
    regAt 0x10 = some .threshold ∧ regAt 0x14 = some .health ∧ regAt 0x18 = some .badCnt ∧
    regAt 0x1C = some .goodCnt ∧ regAt 0x20 = some .lastGoodTs ∧ regAt 0x40 = some (.record 0) ∧
    regAt 0x64 = some (.record 9) ∧ ({ ser with recValid := true } : State).recValid = true := by decide

theorem witness_HostWritesWhileIdle : ser.busy = false := by decide

theorem witness_BusyWritesAreDropped :
    (reading (.decode .look)).busy = true ∧ ((0x00 : Nat) = 0x00 ∨ (0x00 : Nat) = 0x04 ∨ (0x00 : Nat) = 0x10) ∧
    ((0x04 : Nat) = 0x00 ∨ (0x04 : Nat) = 0x04 ∨ (0x04 : Nat) = 0x10) ∧
    ((0x10 : Nat) = 0x00 ∨ (0x10 : Nat) = 0x04 ∨ (0x10 : Nat) = 0x10) := by decide

/-- Offsets at the boundaries of the clauses of `HostFaultsExactly`, and what the model answers there. -/
theorem witness_HostFaultsExactly :
    0x7F < 0x80 ∧
    faultOf (hostAccess (.read 0x20 4) ser) = none ∧
    faultOf (hostAccess (.read 0x24 4) ser) = some .unmappedOrReadonly ∧
    faultOf (hostAccess (.read 0x3C 4) ser) = some .unmappedOrReadonly ∧
    (hostAccess (.read 0x40 4) ser matches .next _) ∧
    (hostAccess (.read 0x64 4) ser matches .next _) ∧
    faultOf (hostAccess (.read 0x68 4) ser) = some .unmappedOrReadonly ∧
    faultOf (hostAccess (.read 0x7C 4) ser) = some .unmappedOrReadonly ∧
    faultOf (hostAccess (.read 0x7F 4) ser) = some .misalignedOrNarrow ∧
    faultOf (hostAccess (.read 0x24 2) ser) = some .misalignedOrNarrow ∧
    faultOf (hostAccess (.write 0x10 4 0) ser) = none ∧
    faultOf (hostAccess (.write 0x08 4 0) ser) = some .unmappedOrReadonly ∧
    faultOf (hostAccess (.write 0x04 1 0) ser) = some .misalignedOrNarrow := by
  refine ⟨by decide, by decide, by decide, by decide, rfl, rfl, by decide, by decide, by decide, by decide, by decide,
    by decide, by decide⟩

theorem witness_PollRepeatsWhileBusy :
    (nextTurn { ser with program := [.poll] }).1 = .host ∧
    (nextTurn { reading (.decode .look) with program := [.poll], sched := [.host] }).1 = .host := by decide

theorem witness_UnreadRecordIsOneDraw :
    ∃ t, step (writing 0x03000000) = .next t ∧ (nextTurn (writing 0x03000000)).1 ≠ .reset ∧ t.recValid = false :=
  ⟨_, rfl, by decide, rfl⟩

theorem witness_ResetRegisterValues :
    (ser.resetBlock = ser.resetBlock ∨ ∃ p, ser.resetBlock = State.resetAt p ser.now) ∧
    (ser = ser.resetBlock ∨ ∃ p, ser = State.resetAt p ser.now) :=
  ⟨.inl rfl, .inr ⟨Config.defaultParams, rfl⟩⟩

theorem witness_ResetAbandonsTheRead :
    ({ reading (.decode .look) with sched := [.reset, .host] } : State).sched = .reset :: [.host] := by decide

theorem witness_InitCommand : ({ ser with now := 500 } : State).now = 500 := by decide

theorem witness_UnescTable : (0x7E : Byte) ∉ ([0x5E, 0x5D, 0x31, 0x33] : List Byte) := by decide

theorem witness_StuffTable :
    (0x13 : Byte) ∈ ([0x7E, 0x7D, 0x11, 0x13] : List Byte) ∧ (0x12 : Byte) ∉ ([0x7E, 0x7D, 0x11, 0x13] : List Byte) := by
  decide

theorem witness_UnescCommand : unescByte 0x5D = some 0x7D ∧ unescByte 0x5F = none := by decide

/-- A serial block built with `n` start data bytes 0. -/
def serWithStartData (n : Nat) : State :=
  { ser with cfg := { ser.cfg with serialStartData := List.replicate n 0 } }

theorem witness_SerialCommandsSendTheirFrame :
    ser.cfg.mode = .serial ∧ ser.cfg.serialStartData = [0x02, 0x01] ∧
    (serWithStartData 0).cfg.mode = .serial ∧ (serWithStartData 0).cfg.serialStartData.length ≤ 255 ∧
    (serWithStartData 255).cfg.mode = .serial ∧ (serWithStartData 255).cfg.serialStartData.length ≤ 255 := by
  decide +kernel

theorem witness_CommandFrameForm :
    ([] : List Byte).length ≤ 255 ∧ (List.replicate 255 (0 : Byte)).length ≤ 255 := by decide +kernel

theorem witness_BusCommandsWriteTheirPointer :
    bus.cfg.mode = .bus ∧ bus.cfg.busStartData = none ∧
    ({ bus.cfg with busStartData := some (0x12, 0x34) } : Params).busStartData = some (0x12, 0x34) := by decide

/-- A bus READ at its start with the two answers settled. -/
def busReading (r d : List Byte) : State :=
  { bus with engine := .decode .ready, busAnswers := [r, d] }

theorem witness_BusReadOutcomes :
    (busReading [0x00, 0x01, 0xB0] zeroGroups).cfg.mode = .bus ∧
    (busReading [0x00, 0x01, 0xB0] zeroGroups).sched = [] ∧
    (busReading [0x00, 0x01, 0xB0] zeroGroups).engine = .decode .ready ∧
    (busReading [0x00, 0x01, 0xB0] zeroGroups).busAnswers = [0x00, 0x01, 0xB0] :: zeroGroups :: [] ∧
    ([0x00, 0x01, 0xB1] : List Byte) ≠ [0x00, 0x01, 0xB0] ∧ (zeroGroups.take 59).length ≠ 60 ∧
    zeroGroups.length = 60 ∧
    (∀ g < 20, crc8 (byteAt zeroGroups (3 * g)) (byteAt zeroGroups (3 * g + 1)) = byteAt zeroGroups (3 * g + 2)) ∧
    (zeroGroups.set 59 0x80).length = 60 ∧
    crc8 (byteAt (zeroGroups.set 59 0x80) 57) (byteAt (zeroGroups.set 59 0x80) 58)
      ≠ byteAt (zeroGroups.set 59 0x80) 59 := by decide +kernel

theorem witness_BusSingleBitErrorsAreDetected :
    busVerify zeroGroups = .done (List.replicate 40 0x00) ∧ 59 < 60 ∧ 7 < 8 ∧
    (zeroGroups ++ [0x00]).length ≠ 60 := by decide +kernel

theorem witness_ReadStartsTheDecode :
    ser.cfg.mode = .serial ∧ bus.cfg.mode = .bus ∧ ∃ t, exec .read ser = .next t :=
  ⟨by decide, by decide, _, rfl⟩

/-- One queue for each of the three ways a serial decode goes on. -/
theorem witness_SerialEngineRefinesSerialDecode :
    (reading (.decode .look)).cfg.mode = .serial ∧ (reading (.decode .look)).sched = [] ∧
    (reading (.decode .look)).engine = .decode .look ∧
    serialDecodeRef zeroFrame = .ok (List.replicate 40 0x00) [] ∧
    serialDecodeRef (zeroFrame.take 46) = .fail .incompleteFrame (zeroFrame.take 46) ∧
    serialDecodeRef (zeroFrame.set 5 0x7D |>.set 6 0x5E) = .hold := by decide +kernel

theorem witness_GoodFrameReadCommits :
    ({ reading (.decode .look) with rx := zeroFrame } : State).cfg.mode = .serial ∧
    ({ reading (.decode .look) with rx := zeroFrame } : State).sched = [] ∧
    ({ reading (.decode .look) with rx := zeroFrame } : State).engine = .decode .look ∧
    (List.replicate 40 (0x00 : Byte)).length = 40 ∧
    ({ reading (.decode .look) with rx := zeroFrame } : State).rx
      = responseFrame 0x00 0x03 0x28 (List.replicate 40 0x00) ++ [] := by decide +kernel

/-- A state of the invariant with 4 header bytes popped and 43 bytes queued, so that the fifth pop does not hold. -/
theorem witness_EngineHoldsExactly :
    Inv { reading (.decode (.header [0x7E, 0x00, 0x03, 0x00])) with rx := zeroFrame.drop 4 } ∧
    ser.engine = .idle ∧
    (popsNext (.decode (.payload [] 0)) = true ∧ (reading (.decode (.payload [] 0))).rx = []) ∧
    ((0 : Word) - 0).toNat < (stageSettle { Config.defaultParams with tSettleOff := 1 } .off).toNat := by
  refine ⟨⟨by decide, by decide, by decide, by decide, by decide, by decide, fun h => absurd h (by decide),
    fun k h => absurd h (by cases k <;> decide), ⟨rfl, by decide, by decide +kernel⟩⟩, by decide, by decide, by decide⟩

theorem witness_RegistersKeptUntilCommit :
    (reading (.decode .look)).busy = true ∧ (∃ t, step (reading (.decode .look)) = .next t) ∧
    (nextTurn (reading (.decode .look))).1 ≠ .reset ∧
    ((nextTurn (reading (.decode .look))).1 = .engine → phaseOf (reading (.decode .look)).engine ≠ .commit) :=
  ⟨by decide, ⟨_, rfl⟩, by decide, by decide⟩

theorem witness_SuccessfulReadCommit :
    (reading (.commit (.ok (List.replicate 40 0x00) 5))).engine = .commit (.ok (List.replicate 40 0x00) 5) := by decide

/-- The counts on both sides of the limit of 5, with and without a recovery, and at the saturation. -/
theorem witness_FailedReadCommit :
    (reading (.commit (.fail .notReady none))).engine = .commit (.fail .notReady none) ∧
    (reading (.commit (.fail .notReady (some 9)))).engine = .commit (.fail .notReady (some 9)) ∧
    5 ≤ (4 : Word).toNat + 1 ∧ (3 : Word).toNat + 1 < 5 ∧ 5 ≤ (0xFFFFFFFF : Word).toNat + 1 := by decide

/-- Elapsed exactly the threshold, one more, and a wrapped clock. -/
theorem witness_StalenessDecidesRecovery :
    ((100 : Word).toNat + 2 ^ 32 - (0 : Word).toNat) % 2 ^ 32 ≤ (100 : Word).toNat ∧
    (100 : Word).toNat < ((101 : Word).toNat + 2 ^ 32 - (0 : Word).toNat) % 2 ^ 32 ∧
    (100 : Word).toNat < ((101 : Word).toNat + 2 ^ 32 - (0xFFFFFFFF : Word).toNat) % 2 ^ 32 ∧
    ({ ser with threshold := 0xFFFFFFFF } : State).threshold = 0xFFFFFFFF ∧
    (reading (.discard .framingError)).engine = .discard .framingError := by decide

/-- A recovery about to start, with every wait exactly as long as its settle time. -/
def recovering : State :=
  { reading (.recover .off .noDataAvailable) with
    cfg := { Config.defaultParams with tSettleOff := 10, tSettleOn := 20, tSettleClean := 30 }
    sched := [.engine, .tick 10, .engine, .engine, .tick 20, .engine, .engine, .tick 30, .engine, .engine] ++ [] }

theorem witness_RecoverySequence :
    recovering.engine = .recover .off .noDataAvailable ∧ recovering.cfg.tSettleOff ≤ 10 ∧
    recovering.cfg.tSettleOn ≤ 20 ∧ recovering.cfg.tSettleClean ≤ 30 ∧ recovering.cfg.mode = .serial ∧
    ({ recovering.cfg with mode := .bus } : Params).mode = .bus := by decide

/-- A step into a READ, a step inside one, and the step that ends one. -/
theorem witness_PhasesMoveForward :
    (∃ t, step (writing 0x20000000) = .next t ∧ (writing 0x20000000).busy = false ∧ t.busy = true) ∧
    (∃ t, step (reading (.decode .look)) = .next t ∧ (reading (.decode .look)).busy = true ∧ t.busy = true) ∧
    (∃ t, step (reading (.commit (.fail .notReady none))) = .next t ∧
      (reading (.commit (.fail .notReady none))).busy = true ∧ t.busy = false) :=
  ⟨⟨_, rfl, rfl, rfl⟩, ⟨_, rfl, rfl, rfl⟩, ⟨_, rfl, rfl, rfl⟩⟩

theorem witness_FailureStreak :
    ser.badCnt = 0 ∧ (List.replicate 4 (FailKind.notReady, (none : Option Word))).length ≤ 4 ∧
    5 ≤ (List.replicate 5 (FailKind.notReady, (none : Option Word))).length := by decide

theorem witness_EveryStepKeepsTheInvariant : Inv (writing 0x20000000) ∧ ∃ t, step (writing 0x20000000) = .next t :=
  ⟨⟨by decide, by decide, by decide, by decide, by decide, by decide, fun h => absurd h (by decide),
    fun k h => absurd h (by cases k <;> decide), trivial⟩, ⟨_, rfl⟩⟩

theorem witness_LegalHostNeverFaults : Safe { ser with program := [.access (.read 0x04 4), .poll] } := by
  unfold Safe
  decide

theorem witness_OnlyIllegalAccessesStop :
    step { ser with program := [.access (.read 0x24 4)] } = .fault .unmappedOrReadonly := rfl

theorem witness_StreamsOnlyGrow_ParametersNeverChange :
    (∃ t, step { ser with sched := [.peer [0x7E]] } = .next t) ∧
    (∃ t, step { ser with sched := [.tick 5] } = .next t) :=
  ⟨⟨_, rfl⟩, ⟨_, rfl⟩⟩

/-- The reset states of both modes, each with a step. -/
theorem witness_PortsOfTheMode :
    Inv ser ∧ Inv bus ∧ ser.cfg.mode = .serial ∧ bus.cfg.mode = .bus ∧ (∃ t, step ser = .next t) ∧
    (∃ t, step bus = .next t) := by
  refine ⟨⟨by decide, by decide, by decide, by decide, by decide, by decide, fun h => absurd h (by decide),
    fun k h => absurd h (by cases k <;> decide), trivial⟩, ⟨by decide, by decide, by decide, by decide, by decide,
    by decide, fun h => absurd h (by decide), fun k h => absurd h (by cases k <;> decide), trivial⟩, by decide,
    by decide, ⟨_, rfl⟩, ⟨_, rfl⟩⟩

/-- Steps that do change `RESULT` and `SUMACC`. -/
theorem witness_WritersOfResultAndSumacc :
    (∃ t, step (writing 0x05000041) = .next t ∧ (nextTurn (writing 0x05000041)).1 ≠ .reset ∧
      t.result ≠ (writing 0x05000041).result) ∧
    (∃ t, step (writing 0x04000001) = .next t ∧ t.acc ≠ (writing 0x04000001).acc) :=
  ⟨⟨_, rfl, by decide, by decide⟩, ⟨_, rfl, by decide⟩⟩

theorem witness_WritersOfLinkHealth :
    (∃ t, step (writing 0x03000000) = .next t) ∧ (nextTurn (writing 0x03000000)).1 ≠ .reset ∧
    acceptedCommand (writing 0x03000000) ≠ some .init ∧ phaseOf (writing 0x03000000).engine ≠ .commit :=
  ⟨⟨_, rfl⟩, by decide, by decide, by decide⟩

end Sys2Proof.Tests
end

section
/-! The statements of the state family (10_state.md): the register map (R13) and the constancy of the construction
parameters (R32). -/

namespace Sys2Proof.Machine

/-! ### The register map -/

/-- Settles O18: each branch of `regAt` is a pair of the map, and each pair of the map is a branch of `regAt`. -/
theorem registerMap : Obligations.RegisterMap := by
  unfold Obligations.RegisterMap
  intro off r
  constructor
  · intro h
    unfold regAt at h
    split at h
    case h_20 => cases h
    all_goals
      obtain rfl := Option.some.inj h
      decide
  · intro h
    refine (?map_sound : ∀ m ∈ _, regAt m.1 = some m.2) (off, r) h
    decide

/-! ### What keeps the construction parameters -/

@[simp] theorem send_cfg (k : SensorCmd) (s : State) : (send k s).cfg = s.cfg := by
  obtain ⟨bs, txs, h, -⟩ := send_spec k s
  rw [h]

@[simp] theorem endFailed_cfg (k : FailKind) (s : State) : (endFailed k s).cfg = s.cfg := by
  rcases endFailed_spec k s with ⟨-, h⟩ | ⟨-, h⟩ <;> simp [h]

@[simp] theorem afterDecode_cfg (r : DecodeNext) (s : State) : (afterDecode r s).cfg = s.cfg := by
  obtain ⟨e, h, -⟩ := afterDecode_spec r s
  simp [h]

@[simp] theorem readyTurn_cfg (s : State) : (readyTurn s).cfg = s.cfg := by
  simp [readyTurn]

@[simp] theorem dataTurn_cfg (s : State) : (dataTurn s).cfg = s.cfg := by
  simp [dataTurn]

@[simp] theorem commitRead_cfg (r : ReadEnd) (s : State) : (commitRead r s).cfg = s.cfg := by
  cases r with
  | ok p t1 => exact commitOk_cfg p t1 s
  | fail k t2 => exact commitFail_cfg k t2 s

@[simp] theorem engineTurn_cfg (s : State) : (engineTurn s).cfg = s.cfg := by
  rcases engineTurn_cases s with hold | ⟨-, look⟩ | ⟨d, b, q, -, -, -, pop⟩ | ⟨-, ready⟩ | ⟨-, data⟩ | ⟨k, -, discard⟩ |
    ⟨g, k, -, command⟩ | ⟨g, k, t0, -, -, waited⟩ | ⟨r, -, commit⟩
  · rw [hold]
  · simp [look]
  · simp [pop]
  · simp [ready]
  · simp [data]
  · simp [discard]
  · simp [command]
  · simp [waited]
  · simp [commit]

theorem exec_cfg {i : Instr} {s t : State} (h : exec i s = .next t) : t.cfg = s.cfg := by
  rcases exec_spec i s with ⟨v, he, -⟩ | ⟨v, he, -⟩ | ⟨k, he, -⟩ | ⟨he, -⟩ | ⟨he, -⟩
  all_goals
    obtain rfl := Host.Outcome.next.inj (he.symm.trans h)
    simp

theorem hostAccess_cfg {a : Access} {s t : State} (h : hostAccess a s = .next t) : t.cfg = s.cfg := by
  rcases hostAccess_next h with rfl | ⟨off, r, -, rfl⟩ | ⟨-, rfl⟩ | ⟨addr, v, -, -, -, ⟨i, -, he⟩ | rfl⟩ |
    ⟨v, -, rfl | rfl⟩
  · rfl
  · exact State.logRead_cfg ..
  · exact State.raiseOverrun_cfg s
  · exact exec_cfg he
  · exact State.raiseIllegal_cfg s
  · exact State.clearSticky_cfg s v
  · exact State.setThreshold_cfg s v

@[simp] theorem pollTurn_cfg (ops : List HostOp) (s : State) : (pollTurn ops s).cfg = s.cfg := by
  unfold pollTurn
  split <;> simp

theorem hostTurn_cfg {s t : State} (h : hostTurn s = .next t) : t.cfg = s.cfg := by
  rcases hostTurn_next h with ⟨-, rfl⟩ | ⟨ops, -, rfl⟩ | ⟨a, ops, -, ha⟩
  · rfl
  · exact pollTurn_cfg ops s
  · exact (hostAccess_cfg ha).trans rfl

/-- R32, for a step of any agent: the turn itself is taken in a state that differs from `s` in the schedule only. -/
theorem step_cfg {s t : State} (h : step s = .next t) : t.cfg = s.cfg := by
  rcases step_next h with ⟨-, host⟩ | ⟨-, rfl⟩ | ⟨bs, -, rfl⟩ | ⟨bs, -, rfl⟩ | ⟨d, -, rfl⟩ | ⟨-, rfl⟩
  · exact (hostTurn_cfg host).trans rfl
  · exact engineTurn_cfg _
  · rfl
  · rfl
  · rfl
  · exact State.resetBlock_cfg _

/-- Settles O56, by the turn the step takes (`step_cfg`). -/
theorem parametersNeverChange : Obligations.ParametersNeverChange :=
  fun _ _ h => step_cfg h

end Sys2Proof.Machine
end

section
/-! The statements of the encoding family (30_encoding.md): what an illegal command word does (R60). -/

namespace Sys2Proof

/-! ### The words the decoder accepts -/

/-- The zero fields of a row are the one condition under which it gives its command (R58). -/
theorem requireZero_eq_ok_iff {zs : List Byte} {i j : Instr} :
    requireZero zs i = .ok j ↔ (∀ z ∈ zs, z = 0) ∧ i = j := by
  unfold requireZero
  split
  · next zero => simpa using fun _ => List.all_eq_true.1 zero
  · next nonzero => simpa using fun zeros => absurd zeros (by simpa using nonzero)

/-- The decoder loses nothing: fields that decode to a command are the fields of that command's own word (R59, R71). One
round of the loop is one row of the map; past the last row the opcode is unassigned. -/
theorem eq_instrFields_of_decodeFields {f : Fields} {i : Instr} (h : decodeFields f = .ok i) : f = instrFields i := by
  obtain ⟨opc, a, b, c⟩ := f
  unfold decodeFields at h
  iterate 12
    obtain ⟨row, given⟩ | ⟨-, h⟩ := ite_eq_iff.1 h
    · obtain ⟨zeros, rfl⟩ := requireZero_eq_ok_iff.1 given
      simp_all [instrFields]
  cases h

/-- Every command's own word fits a row of the opcode map (R59). -/
theorem instrFields_wf (i : Instr) : (instrFields i).wf = true := by
  cases i with
  | crc8 a b => exact Laws.EncodesWellFormed.crc8 a b
  | crcchk a b c => exact Laws.EncodesWellFormed.crcchk a b c
  | sumclr => exact Laws.EncodesWellFormed.sumclr
  | sumadd c => exact Laws.EncodesWellFormed.sumadd c
  | stuff c => exact Laws.EncodesWellFormed.stuff c
  | unesc c => exact Laws.EncodesWellFormed.unesc c
  | pwron => exact Laws.EncodesWellFormed.pwron
  | pwroff => exact Laws.EncodesWellFormed.pwroff
  | clean => exact Laws.EncodesWellFormed.clean
  | reqdata => exact Laws.EncodesWellFormed.reqdata
  | read => exact Laws.EncodesWellFormed.read
  | init => exact Laws.EncodesWellFormed.init

theorem wf_of_decode {w : Word} {i : Instr} (h : decode w = .ok i) : (fieldsOf w).wf = true := by
  rw [eq_instrFields_of_decodeFields h]
  exact instrFields_wf i

namespace Machine

/-! ### A command word reaching the block -/

/-- R60, R135: a word that fits no row raises `ILLEGAL`, for whichever reason it is illegal. -/
theorem acceptCommand_of_not_wf {w : Word} (h : (fieldsOf w).wf = false) (s : State) :
    acceptCommand w s = .next s.raiseIllegal := by
  rcases acceptCommand_spec w s with ⟨i, hok, -⟩ | ⟨-, raised⟩
  · exact absurd (wf_of_decode hok) (by simp [h])
  · exact raised

/-- An aligned 32-bit write at the block's base address, while idle, is a command word accepted (R14, R44). -/
theorem hostAccess_cmd {s : State} (idle : s.busy = false) (w : Word) :
    hostAccess (.write s.cfg.baseAddr 4 w) s = acceptCommand w s := by
  simp [hostAccess, offsetOf_self, wholeWord, hostWrite, regAt, idle]

theorem hostTurn_access {s : State} {a : Access} {ops : List HostOp} (h : s.program = .access a :: ops) :
    hostTurn s = hostAccess a { s with program := ops } := by
  simp [hostTurn, h]

theorem step_of_host {s : State} (h : (nextTurn s).1 = .host) :
    step s = hostTurn { s with sched := s.sched.tail } := by
  simp [step, nextTurn_state, h, takeTurn]

/-- The whole way of a command word, from the host's turn to the decoder (R14, R58). -/
theorem step_of_cmd_write {s : State} {w : Word} {ops : List HostOp} (idle : s.busy = false)
    (host : (nextTurn s).1 = .host) (write : s.program = .access (.write s.cfg.baseAddr 4 w) :: ops) :
    step s = acceptCommand w { s with sched := s.sched.tail, program := ops } := by
  have taken := hostTurn_access (s := { s with sched := s.sched.tail }) write
  have still_idle : ({ s with sched := s.sched.tail, program := ops } : State).busy = false :=
    (busy_congr rfl).trans idle
  exact (step_of_host host).trans (taken.trans (hostAccess_cmd still_idle w))

/-- Settles O6: the write reaches the decoder (`step_of_cmd_write`), which refuses every word that fits no row
(`acceptCommand_of_not_wf`). -/
theorem illegalWordOnlySetsIllegal : Obligations.IllegalWordOnlySetsIllegal := by
  unfold Obligations.IllegalWordOnlySetsIllegal
  intro s w ops idle host write illegal
  rw [step_of_cmd_write idle host write]
  exact acceptCommand_of_not_wf illegal _

end Machine

end Sys2Proof
end

section
/-! The statements of the checksum family (40_checksum.md): the commands CRC8, CRCCHK, SUMCLR and SUMADD (R74, R75, R77,
R78), the frame checksum as a number (R76), and its computation by SUMCLR and SUMADD (R79). -/

namespace Sys2Proof

/-! ### Decoding a word given by its fields -/

/-- R57: taking a word apart undoes putting it together from its fields. -/
@[simp] theorem fieldsOf_wordOf (f : Fields) : fieldsOf (wordOf f) = f := by
  obtain ⟨opc, a, b, c⟩ := f
  simp only [fieldsOf, wordOf, Fields.mk.injEq]
  refine ⟨?opc, ?a, ?b, BitVec.extractLsb'_append_eq_right⟩
  case opc =>
    iterate 2 rw [BitVec.extractLsb'_append_eq_of_le (by decide)]
    exact BitVec.extractLsb'_append_eq_left
  case a =>
    iterate 2 rw [BitVec.extractLsb'_append_eq_of_le (by decide)]
    exact BitVec.extractLsb'_append_eq_right
  case b =>
    rw [BitVec.extractLsb'_append_eq_of_le (by decide)]
    exact BitVec.extractLsb'_append_eq_right

theorem decode_wordOf (f : Fields) : decode (wordOf f) = decodeFields f := by
  rw [decode, fieldsOf_wordOf]

theorem requireZero_eq_ite (zs : List Byte) (i : Instr) :
    requireZero zs i = if ∀ z ∈ zs, z = 0 then .ok i else .error .fieldNotZero := by
  simp [requireZero]

namespace Machine

/-! ### What the four commands answer -/

theorem exec_crc8 (a b : Byte) (s : State) : exec (.crc8 a b) s = .next (s.setResult (zextByte (crc8 a b))) := rfl

theorem exec_crcchk (a b c : Byte) (s : State) :
    exec (.crcchk a b c) s = .next (s.setResult (if crc8 a b = c then 1 else 0)) := rfl

@[simp] theorem exec_sumclr (s : State) : exec .sumclr s = .next (s.setAcc 0) := rfl

@[simp] theorem exec_sumadd (c : Byte) (s : State) : exec (.sumadd c) s = .next (s.setAcc (s.acc + c)) := rfl

theorem exec_crcchk_of_eq {a b c : Byte} (h : crc8 a b = c) (s : State) :
    exec (.crcchk a b c) s = .next (s.setResult 1) := by
  rw [exec_crcchk, if_pos h]

theorem exec_crcchk_of_ne {a b c : Byte} (h : crc8 a b ≠ c) (s : State) :
    exec (.crcchk a b c) s = .next (s.setResult 0) := by
  rw [exec_crcchk, if_neg h]

/-- A check passes for the word's own CRC and for no other byte (R75): the two outcomes differ in `RESULT`. -/
theorem exec_crcchk_eq_one_iff {a b c : Byte} {s : State} :
    exec (.crcchk a b c) s = .next (s.setResult 1) ↔ crc8 a b = c := by
  refine ⟨fun passed => ?_, fun good => exec_crcchk_of_eq good s⟩
  by_contra bad
  rw [exec_crcchk_of_ne bad] at passed
  have results : (0 : Word) = 1 := congrArg State.result (Host.Outcome.next.inj passed)
  exact absurd results (by decide)

@[simp] theorem State.setAcc_setAcc (s : State) (v w : Byte) : (s.setAcc v).setAcc w = s.setAcc w := rfl

theorem State.setAcc_self (s : State) : s.setAcc s.acc = s := rfl

/-! ### CRC values the rules list -/

theorem crc8_00_00 : crc8 0x00 0x00 = 0x81 := by decide +kernel

theorem crc8_FF_00 : crc8 0xFF 0x00 = 0x00 := by decide +kernel

theorem crc8_FF_FF : crc8 0xFF 0xFF = 0xAC := by decide +kernel

theorem crc8_BE_EF : crc8 0xBE 0xEF = 0x92 := by decide +kernel

theorem crc8_00_01 : crc8 0x00 0x01 = 0xB0 := by decide +kernel

/-! ### The accumulator and the sum of a list -/

/-- R16: `SUMACC.FCS` is always the complement of `SUMACC.ACC`. -/
theorem sumaccWord_fcs (s : State) : (sumaccWord s).extractLsb' 8 8 = ~~~s.acc := by
  rw [sumaccWord, BitVec.extractLsb'_append_eq_of_le (by decide)]
  exact BitVec.extractLsb'_append_eq_right

theorem sumaccWord_setAcc (s : State) (v : Byte) : sumaccWord (s.setAcc v) = (0 : BitVec 16) ++ ~~~v ++ v := rfl

theorem natSum_cons (x : Byte) (p : List Byte) : natSum (x :: p) = x.toNat + natSum p := List.sum_cons

/-- R76: the byte sum as a number; taking it modulo 256 once, at the end, is enough. -/
theorem byteSum_toNat (p : List Byte) : (byteSum p).toNat = natSum p % 256 := by
  induction p with
  | nil => rfl
  | cons x p ih =>
    rw [byteSum_cons, BitVec.toNat_add, ih, natSum_cons]
    omega

theorem ofNat_natSum (p : List Byte) : BitVec.ofNat 8 (natSum p % 256) = byteSum p := by
  rw [← byteSum_toNat, BitVec.ofNat_toNat, BitVec.setWidth_eq]

theorem runCommands_nil (s : State) : runCommands [] s = .next s := rfl

theorem runCommands_cons {i : Instr} {s t : State} (h : exec i s = .next t) (is : List Instr) :
    runCommands (i :: is) s = runCommands is t := by
  rw [runCommands, h]

/-- One SUMADD per byte adds the byte sum of the list to the accumulator, whatever it held. -/
theorem runCommands_sumadd (p : List Byte) (s : State) :
    runCommands (p.map .sumadd) s = .next (s.setAcc (s.acc + byteSum p)) := by
  induction p generalizing s with
  | nil => simp [runCommands_nil, State.setAcc_self]
  | cons x p ih =>
    rw [List.map_cons, runCommands_cons (exec_sumadd x s), ih, State.setAcc_setAcc, State.setAcc_acc, byteSum_cons,
      BitVec.add_assoc]

/-- The sequence of R79, whatever the accumulator held before it. -/
theorem runCommands_sumclr_sumadd (p : List Byte) (s : State) :
    runCommands (.sumclr :: p.map .sumadd) s = .next (s.setAcc (byteSum p)) := by
  rw [runCommands_cons (exec_sumclr s), runCommands_sumadd, State.setAcc_setAcc, State.setAcc_acc]
  simp

/-! ### The statements -/

/-- Settles O15: the byte sum is the number sum modulo 256 (`byteSum_toNat`), and the complement of a byte is its distance
to 255. -/
theorem frameChecksumIsInvertedSum : Obligations.FrameChecksumIsInvertedSum := by
  unfold Obligations.FrameChecksumIsInvertedSum
  refine ⟨fun p => ?_, rfl⟩
  rw [frameChecksum, BitVec.toNat_not, byteSum_toNat]

/-- Settles O17: the run leaves the byte sum in the accumulator (`runCommands_sumclr_sumadd`, by induction on the list),
and the frame checksum is its complement by definition. -/
theorem sumCommandsComputeTheChecksum : Obligations.SumCommandsComputeTheChecksum := by
  unfold Obligations.SumCommandsComputeTheChecksum
  intro p s
  rw [ofNat_natSum]
  exact ⟨runCommands_sumclr_sumadd p s, sumaccWord_fcs _⟩

/-- Settles O8: the decoder's row for CRC8, the command's one equation, and the listed CRC values. -/
theorem crc8Command : Obligations.Crc8Command := by
  unfold Obligations.Crc8Command
  refine ⟨fun a b c => ?decoded, exec_crc8, crc8_00_00, crc8_FF_00, crc8_FF_FF, fun s => ?beef⟩
  case decoded => simp [decode_wordOf, decodeFields, requireZero_eq_ite]
  case beef =>
    rw [exec_crc8, crc8_BE_EF]
    rfl

/-- Settles O9: the two outcomes of the check, and that the word's own CRC is the one byte that passes
(`exec_crcchk_eq_one_iff`). -/
theorem crcchkCommand : Obligations.CrcchkCommand := by
  unfold Obligations.CrcchkCommand
  refine ⟨fun a b c => ?decoded, fun _ _ _ s good => exec_crcchk_of_eq good s,
    fun _ _ _ s bad => exec_crcchk_of_ne bad s,
    fun a b s => ⟨crc8 a b, fun c' => exec_crcchk_eq_one_iff.trans eq_comm⟩,
    exec_crcchk_of_eq crc8_FF_00, exec_crcchk_of_ne ?zero_group, exec_crcchk_of_eq crc8_00_01,
    exec_crcchk_of_ne ?not_ready⟩
  case decoded => simp [decode_wordOf, decodeFields, requireZero_eq_ite]
  case zero_group => rw [crc8_00_00]; decide
  case not_ready => rw [crc8_00_01]; decide

/-- Settles O10: `SUMACC` depends on the accumulator only, so a cleared one reads the same in every state. -/
theorem sumclrCommand : Obligations.SumclrCommand := by
  unfold Obligations.SumclrCommand
  refine ⟨fun a b c => ?decoded, exec_sumclr, fun s => ?reads, fun s => ?idempotent⟩
  case decoded => simp [decode_wordOf, decodeFields, requireZero_eq_ite]
  case reads => exact (sumaccWord_setAcc s 0).trans (by decide)
  case idempotent =>
    rw [runCommands_cons (exec_sumclr s), runCommands_cons (exec_sumclr _), runCommands_nil, State.setAcc_setAcc,
      exec_sumclr]

/-- Settles O11: SUMADD is addition of bytes, which is addition of numbers modulo 256; a run of two SUMADDs adds their byte
sum (`runCommands_sumadd`), in either order the same. -/
theorem sumaddCommand : Obligations.SumaddCommand := by
  unfold Obligations.SumaddCommand
  refine ⟨fun a b c => ?decoded, fun c s => ?adds, sumaccWord_fcs, fun s full => ?wraps, fun s => ?zero,
    fun c d s => ?commute, fun s => ⟨_, runCommands_sumclr_sumadd [0x00, 0x03, 0x00] s, ?read_frame⟩⟩
  case decoded => simp [decode_wordOf, decodeFields, requireZero_eq_ite]
  case adds =>
    have sum : s.acc + c = BitVec.ofNat 8 ((s.acc.toNat + c.toNat) % 256) := by
      apply BitVec.eq_of_toNat_eq
      simp
    rw [exec_sumadd, sum]
    rfl
  case wraps =>
    rw [exec_sumadd, full]
    rfl
  case zero => rw [exec_sumadd, show s.acc + 0x00 = s.acc from BitVec.add_zero _, State.setAcc_self]
  case commute =>
    have order : byteSum [c, d] = byteSum [d, c] := by
      simp only [byteSum_cons, byteSum_nil, add_zero, BitVec.add_comm c d]
    have run := runCommands_sumadd [c, d] s
    rw [order] at run
    exact run.trans (runCommands_sumadd [d, c] s).symm
  case read_frame =>
    rw [sumaccWord_setAcc]
    decide

end Machine

end Sys2Proof
end

section
/-! The statements of the serial codec family (41_serial_codec.md): the de-stuffing substitution (R81), the stuffing
function (R82), and the commands STUFF (R83) and UNESC (R84). -/

namespace Sys2Proof.Machine

/-! ### Stuffing and de-stuffing one byte -/

theorem isReserved_iff_mem (b : Byte) : isReserved b = true ↔ b ∈ [0x7E, 0x7D, 0x11, 0x13] := by
  simp [isReserved, or_assoc]

theorem stuffByte_of_mem {b : Byte} (h : b ∈ [0x7E, 0x7D, 0x11, 0x13]) : stuffByte b = [0x7D, b ^^^ 0x20] :=
  if_pos ((isReserved_iff_mem b).2 h)

theorem stuffByte_of_not_mem {b : Byte} (h : b ∉ [0x7E, 0x7D, 0x11, 0x13]) : stuffByte b = [b] :=
  if_neg (mt (isReserved_iff_mem b).1 h)

theorem stuffByte_length_eq_two_iff (b : Byte) : (stuffByte b).length = 2 ↔ b ∈ [0x7E, 0x7D, 0x11, 0x13] := by
  refine ⟨fun two => ?_, fun h => by rw [stuffByte_of_mem h]; rfl⟩
  by_contra h
  rw [stuffByte_of_not_mem h] at two
  cases two

/-- R81 undoes R82: the second byte of an escape pair stands for the byte that was stuffed. -/
theorem unescByte_xor_of_mem {b : Byte} (h : b ∈ [0x7E, 0x7D, 0x11, 0x13]) : unescByte (b ^^^ 0x20) = some b := by
  revert b
  decide

theorem unescByte_of_not_mem {y : Byte} (h : y ∉ [0x5E, 0x5D, 0x31, 0x33]) : unescByte y = none := by
  simp only [List.mem_cons, List.not_mem_nil, or_false, not_or] at h
  obtain ⟨h5E, h5D, h31, h33⟩ := h
  rw [unescByte, if_neg h5E, if_neg h5D, if_neg h31, if_neg h33]

/-! ### What STUFF and UNESC answer -/

/-- Shifting a length and two bytes into place and joining them is concatenation: each bit stands in one field only. -/
theorem shiftLeft_or_eq_append (n : BitVec 2) (w0 w1 : Byte) :
    n.setWidth 32 <<< 16 ||| zextByte w0 <<< 8 ||| zextByte w1 = 0#14 ++ n ++ w0 ++ w1 := by
  ext i hi
  simp only [zextByte, BitVec.getElem_or, BitVec.getElem_shiftLeft, BitVec.getElem_setWidth]
  grind

/-- R83: the four fields of the word STUFF writes, from the top. -/
theorem stuffResult_eq_append (b : Byte) :
    stuffResult b =
      0#14 ++ BitVec.ofNat 2 (stuffByte b).length ++ byteAt (stuffByte b) 0 ++ byteAt (stuffByte b) 1 := by
  unfold stuffResult
  by_cases h : b ∈ [0x7E, 0x7D, 0x11, 0x13]
  · rw [stuffByte_of_mem h]
    exact shiftLeft_or_eq_append 2 0x7D (b ^^^ 0x20)
  · rw [stuffByte_of_not_mem h]
    exact BitVec.or_zero.symm.trans (shiftLeft_or_eq_append 1 b 0)

theorem exec_stuff (c : Byte) (s : State) : exec (.stuff c) s = .next (s.setResult (stuffResult c)) := rfl

theorem exec_stuff_of_eq {c : Byte} {v : Word} (h : stuffResult c = v) (s : State) :
    exec (.stuff c) s = .next (s.setResult v) := by
  rw [exec_stuff, h]

theorem exec_unesc (c : Byte) (s : State) : exec (.unesc c) s = .next (s.setResult (unescResult c)) := rfl

theorem exec_unesc_of_some {c x : Byte} (h : unescByte c = some x) (s : State) :
    exec (.unesc c) s = .next (s.setResult (zextByte x)) := by
  rw [exec_unesc, unescResult, h]

theorem exec_unesc_of_none {c : Byte} (h : unescByte c = none) (s : State) :
    exec (.unesc c) s = .next (s.setResult 0x00000100) := by
  rw [exec_unesc, unescResult, h]

/-! ### The statements -/

/-- Settles O31: the four rows of the table, and past them no branch is left. -/
theorem unescTable : Obligations.UnescTable :=
  ⟨rfl, rfl, rfl, rfl, fun _ => unescByte_of_not_mem⟩

/-- Settles O32: the two outcomes of stuffing a byte, the inverse, and the recursion on a list. -/
theorem stuffTable : Obligations.StuffTable :=
  ⟨fun _ h => ⟨stuffByte_of_mem h, unescByte_xor_of_mem h⟩, fun _ => stuffByte_of_not_mem, rfl, stuffBytes_cons⟩

/-- Settles O33: the decoder's row for STUFF, the fields of the word it writes (`stuffResult_eq_append`), and the wire
lengths of R82. -/
theorem stuffCommand : Obligations.StuffCommand := by
  unfold Obligations.StuffCommand
  refine ⟨fun a b c => ?decoded, fun c s => ⟨stuffResult c, exec_stuff c s, ?fields⟩, stuffByte_length_eq_two_iff,
    fun c => ?one_or_two, exec_stuff_of_eq (by decide), exec_stuff_of_eq (by decide), exec_stuff_of_eq (by decide),
    exec_stuff_of_eq (by decide)⟩
  case decoded => simp [decode_wordOf, decodeFields, requireZero_eq_ite]
  case fields =>
    rw [stuffResult_eq_append]
    refine ⟨?unused, ?length, ?first, BitVec.extractLsb'_append_eq_right⟩
    case unused =>
      iterate 2 rw [BitVec.extractLsb'_append_eq_of_le (by decide)]
      exact BitVec.extractLsb'_append_eq_left
    case length =>
      iterate 2 rw [BitVec.extractLsb'_append_eq_of_le (by decide)]
      exact BitVec.extractLsb'_append_eq_right
    case first =>
      rw [BitVec.extractLsb'_append_eq_of_le (by decide)]
      exact BitVec.extractLsb'_append_eq_right
  case one_or_two =>
    have := stuffByte_length c
    omega

/-- Settles O34: the decoder's row for UNESC and the command's two outcomes, of which each example is one. -/
theorem unescCommand : Obligations.UnescCommand := by
  unfold Obligations.UnescCommand
  refine ⟨fun a b c => ?decoded, fun _ _ s h => exec_unesc_of_some h s, fun _ s h => exec_unesc_of_none h s,
    exec_unesc_of_some (x := 0x11) rfl, exec_unesc_of_none rfl, exec_unesc_of_none rfl, exec_unesc_of_none rfl,
    exec_unesc_of_some (x := 0x7E) rfl⟩
  case decoded => simp [decode_wordOf, decodeFields, requireZero_eq_ite]

end Sys2Proof.Machine
end

section
/-! The statements of the bus codec family (42_bus_codec.md): what the bus decode makes of an answer with one byte changed
(R109). -/

namespace Sys2Proof.Machine

/-! ### The CRC tells two words apart that differ in one byte -/

/-- Undoes one iteration of R73: the polynomial is odd, so bit 0 tells whether it was folded in, that is, whether the bit
shifted out was set. -/
def crcUnshift (acc : Byte) : Byte :=
  if acc.getLsbD 0 then (acc ^^^ Config.crcPoly) >>> 1 ||| 0x80 else acc >>> 1

theorem crcUnshift_crcShift (acc : Byte) : crcUnshift (crcShift acc) = acc := by
  revert acc
  decide

theorem crcShift_injective : Function.Injective crcShift :=
  Function.LeftInverse.injective crcUnshift_crcShift

theorem repeat_injective {α : Type} {f : α → α} (hf : Function.Injective f) (n : Nat) :
    Function.Injective (Nat.repeat f n) := by
  induction n with
  | zero => exact Function.injective_id
  | succ n ih => exact hf.comp ih

/-- Folding a byte in loses nothing of the accumulator XORed with that byte. -/
theorem crcByte_eq_iff {acc acc' b b' : Byte} : crcByte acc b = crcByte acc' b' ↔ acc ^^^ b = acc' ^^^ b' :=
  (repeat_injective crcShift_injective 8).eq_iff

theorem crc8_left_inj {a a' b : Byte} : crc8 a b = crc8 a' b ↔ a = a' := by
  simp only [crc8, crcByte_eq_iff, BitVec.xor_left_inj, BitVec.xor_right_inj]

theorem crc8_right_inj {a b b' : Byte} : crc8 a b = crc8 a b' ↔ b = b' := by
  simp only [crc8, crcByte_eq_iff, BitVec.xor_right_inj]

/-! ### One changed byte of an answer -/

/-- An answer fails when its first group does, or the groups after it do (R105). -/
theorem busGroups_cons_eq_none_iff {a b c : Byte} {l : List Byte} :
    busGroups (a :: b :: c :: l) = none ↔ (crc8 a b = c → busGroups l = none) := by
  rw [busGroups]
  split
  · next good => simp [good]
  · next bad => simp [bad]

/-- A changed byte breaks the group it stands in: a data byte moves the CRC away from the CRC byte, which is unchanged, and
a changed CRC byte is not the CRC, which is unchanged (R109). -/
theorem busGroups_set_eq_none {d : List Byte} {i : Nat} {x : Byte} (good : busGroups d ≠ none) (hi : i < d.length)
    (changed : x ≠ byteAt d i) : busGroups (d.set i x) = none := by
  induction d using busGroups.induct generalizing i with
  | case1 => cases hi
  | case2 a b l ih =>
    match i with
    | 0 => exact busGroups_cons_eq_none_iff.2 fun passes => absurd (crc8_left_inj.1 passes) changed
    | 1 => exact busGroups_cons_eq_none_iff.2 fun passes => absurd (crc8_right_inj.1 passes) changed
    | 2 => exact busGroups_cons_eq_none_iff.2 fun passes => absurd passes.symm changed
    | i + 3 =>
      have rest_good : busGroups l ≠ none := fun bad => good (busGroups_cons_eq_none_iff.2 fun _ => bad)
      have rest_bad := ih rest_good (by simpa using hi) changed
      exact busGroups_cons_eq_none_iff.2 fun _ => rest_bad
  | case3 a b c l bad => exact absurd (busGroups_cons_eq_none_iff.2 fun passes => absurd passes bad) good
  | case4 l not_nil not_group => exact absurd (by rw [busGroups] <;> assumption) good

theorem busVerify_of_length_ne {d : List Byte} (h : d.length ≠ Config.dataLen) :
    busVerify d = .failed .transactionSizeMismatch :=
  if_pos h

theorem busVerify_of_busGroups_eq_none {d : List Byte} (size : d.length = Config.dataLen) (bad : busGroups d = none) :
    busVerify d = .failed .checksumMismatch := by
  rw [busVerify, if_neg (not_not.2 size), bad]

theorem good_of_busVerify_done {d p : List Byte} (h : busVerify d = .done p) :
    d.length = Config.dataLen ∧ busGroups d = some p := by
  rcases busVerify_spec d with ⟨-, short⟩ | ⟨-, -, bad⟩ | ⟨q, size, groups, -, done⟩
  · cases short.symm.trans h
  · cases bad.symm.trans h
  · cases done.symm.trans h
    exact ⟨size, groups⟩

/-- R109 for any change of one byte, not of one bit only: the answer keeps its size and fails in the changed group. -/
theorem busVerify_set_of_ne {d p : List Byte} {i : Nat} {x : Byte} (h : busVerify d = .done p) (hi : i < Config.dataLen)
    (changed : x ≠ byteAt d i) : busVerify (d.set i x) = .failed .checksumMismatch := by
  obtain ⟨size, groups⟩ := good_of_busVerify_done h
  have broken := busGroups_set_eq_none (by simp [groups]) (size ▸ hi) changed
  exact busVerify_of_busGroups_eq_none (List.length_set.trans size) broken

theorem xor_one_shiftLeft_ne {j : Nat} (hj : j < 8) (b : Byte) : b ^^^ (1#8 <<< j) ≠ b := by
  have nonzero : ∀ j < 8, 1#8 <<< j ≠ 0#8 := by decide
  exact fun same => nonzero j hj ((BitVec.xor_right_inj b).1 (same.trans BitVec.xor_zero.symm))

/-- Settles O40: a flipped bit is a changed byte (`xor_one_shiftLeft_ne`), and no changed byte passes its group's CRC
(`busVerify_set_of_ne`). -/
theorem busSingleBitErrorsAreDetected : Obligations.BusSingleBitErrorsAreDetected :=
  ⟨fun _ _ done _ hi _ hj => busVerify_set_of_ne done hi (xor_one_shiftLeft_ne hj _),
    fun _ => busVerify_of_length_ne⟩

end Sys2Proof.Machine
end

section
/-! The statements of the link-health family (43_link.md): INIT (R121), the two commits of a READ (R115, R116), and the
staleness that decides on a recovery (R117). -/

namespace Sys2Proof.Machine

/-! ### What INIT answers -/

theorem exec_init (s : State) :
    exec .init s = .next { s with
      linkState := .initializing, isHealthy := false, badCnt := 0, goodCnt := Config.goodCntInit
      lastGoodTs := s.now } := rfl

theorem healthWord_of_initializing {s : State} (link : s.linkState = .initializing) (health : s.isHealthy = false) :
    healthWord s = 0 := by
  rw [healthWord, link, health]
  decide

/-! ### The commit of a READ -/

theorem engineTurn_commit {s : State} {r : ReadEnd} (h : s.engine = .commit r) : engineTurn s = commitRead r s := by
  rw [engineTurn, h]

theorem engineTurn_commit_ok {s : State} {p : List Byte} {t1 : Word} (h : s.engine = .commit (.ok p t1)) :
    engineTurn s = commitOk p t1 s :=
  engineTurn_commit h

theorem engineTurn_commit_fail {s : State} {k : FailKind} {t2 : Option Word} (h : s.engine = .commit (.fail k t2)) :
    engineTurn s = commitFail k t2 s :=
  engineTurn_commit h

/-- R24, R38: `RECORD[i]` is field `i` of the payload, for each of the ten. -/
theorem recordOf_getElem (p : List Byte) (i : Nat) (h : i < 10) : (recordOf p)[i] = fieldOf p i := by
  have each : ∀ j : Fin 10, (recordOf p)[j.val] = fieldOf p j.val := by
    simp [Fin.forall_fin_succ, recordOf]
  exact each ⟨i, h⟩

/-- R116: the saturation of the count does not hide the limit, which lies below it. -/
theorem degrades_iff (s : State) : degrades s = true ↔ 5 ≤ s.badCnt.toNat + 1 := by
  rw [degrades, decide_eq_true_iff, sat32_toNat, Config.degradeLimit]
  omega

theorem commitFail_of_degrades {s : State} (h : degrades s = true) (k : FailKind) (t2 : Option Word) :
    (commitFail k t2 s).linkState = .degraded ∧ (commitFail k t2 s).isHealthy = false := by
  simp [h]

theorem commitFail_of_not_degrades {s : State} (h : ¬ degrades s = true) (k : FailKind) (t2 : Option Word) :
    (commitFail k t2 s).linkState = s.linkState ∧ (commitFail k t2 s).isHealthy = s.isHealthy := by
  simp [h]

/-! ### The end of the decode -/

theorem afterDecode_done (p : List Byte) (s : State) :
    afterDecode (.done p) s = s.setEngine (.commit (.ok p s.now)) := rfl

theorem afterDecode_failed (k : FailKind) (s : State) : afterDecode (.failed k) s = endFailed k s := rfl

theorem engineTurn_discard {s : State} {k : FailKind} (h : s.engine = .discard k) :
    engineTurn s = endFailed k (s.rxDiscard Config.discardMax) := by
  rw [engineTurn, h]

/-- R117 in numbers: the last good read is too old exactly when the time since it, modulo 2^32, exceeds `THRESHOLD`. -/
theorem elapsed_gt_threshold_iff (s : State) :
    elapsed s.now s.lastGoodTs > s.threshold ↔
      s.threshold.toNat < (s.now.toNat + 2 ^ 32 - s.lastGoodTs.toNat) % 2 ^ 32 := by
  rw [← elapsed_toNat]
  exact BitVec.lt_def

theorem endFailed_of_stale {s : State} (h : elapsed s.now s.lastGoodTs > s.threshold) (k : FailKind) :
    endFailed k s = s.setEngine (.recover .off k) :=
  if_pos h

theorem endFailed_of_not_stale {s : State} (h : ¬ elapsed s.now s.lastGoodTs > s.threshold) (k : FailKind) :
    endFailed k s = s.setEngine (.commit (.fail k none)) :=
  if_neg h

/-- No time between two clock samples is above the largest threshold. -/
theorem not_stale_of_threshold_max {s : State} (h : s.threshold = 0xFFFFFFFF) :
    ¬ elapsed s.now s.lastGoodTs > s.threshold := by
  rw [h]
  exact BitVec.not_allOnes_lt

/-! ### The statements -/

/-- Settles O29: the decoder's row for INIT, the command's one equation, and the registers of the state it answers. -/
theorem initCommand : Obligations.InitCommand := by
  unfold Obligations.InitCommand
  refine ⟨fun a b c => ?decoded, exec_init,
    fun s now500 => ⟨_, exec_init s, healthWord_of_initializing rfl rfl, rfl, rfl, now500⟩⟩
  case decoded => simp [decode_wordOf, decodeFields, requireZero_eq_ite]

/-- Settles O46: the engine's turn at a successful commit is `commitOk`, whose counter saturates (`sat32_toNat`) and whose
record holds the payload's fields (`recordOf_getElem`). -/
theorem successfulReadCommit : Obligations.SuccessfulReadCommit := by
  unfold Obligations.SuccessfulReadCommit
  refine ⟨afterDecode_done, fun p t1 s commit => ⟨commitOk p t1 s, engineTurn_commit_ok commit, rfl, ?count, ?fields⟩⟩
  case count => exact sat32_toNat _
  case fields => exact recordOf_getElem p

/-- Settles O47: the engine's turn at a failed commit is `commitFail`, which degrades the link exactly when the count goes
to 5 or above (`degrades_iff`). -/
theorem failedReadCommit : Obligations.FailedReadCommit := by
  unfold Obligations.FailedReadCommit
  intro k t2 s commit
  refine ⟨commitFail k t2 s, engineTurn_commit_fail commit, rfl, sat32_toNat _, fun reached => ?degraded,
    fun below => ?kept, ?no_recovery, ?recovery⟩
  case degraded => exact commitFail_of_degrades ((degrades_iff s).2 reached) k t2
  case kept => exact commitFail_of_not_degrades (mt (degrades_iff s).1 (Nat.not_le.2 below)) k t2
  case no_recovery =>
    rintro rfl
    rfl
  case recovery =>
    rintro x rfl
    rfl

/-- Settles O48: the test of `endFailed` read as a comparison of numbers (`elapsed_gt_threshold_iff`), and that every
failed decode, with or without a discard, comes to it. -/
theorem stalenessDecidesRecovery : Obligations.StalenessDecidesRecovery := by
  unfold Obligations.StalenessDecidesRecovery
  refine ⟨fun k s stale => ?recovers, fun k s fresh => ?commits, afterDecode_failed,
    fun k s discard => engineTurn_discard discard, afterDecode_done,
    fun k s largest => endFailed_of_not_stale (not_stale_of_threshold_max largest) k⟩
  case recovers => exact endFailed_of_stale ((elapsed_gt_threshold_iff s).2 stale) k
  case commits => exact endFailed_of_not_stale (mt (elapsed_gt_threshold_iff s).1 (Nat.not_lt.2 fresh)) k

end Sys2Proof.Machine
end


section
/-! The statements of the reset family (70_reset_and_hazards.md): INIT against a reset of the same state (R152). -/

namespace Sys2Proof.Machine

/-- The registers of the link-health unit that R152 calls so, `THRESHOLD` not among them (R19 to R23). -/
def linkHealthRegs : List Reg := [.health, .badCnt, .goodCnt, .lastGoodTs]

/-- A link-health register reads nothing but the five link-health fields. -/
theorem readReg_congr_of_mem_linkHealthRegs {r : Reg} (mem : r ∈ linkHealthRegs) {s t : State}
    (link : s.linkState = t.linkState) (health : s.isHealthy = t.isHealthy) (bad : s.badCnt = t.badCnt)
    (good : s.goodCnt = t.goodCnt) (last : s.lastGoodTs = t.lastGoodTs) : readReg r s = readReg r t := by
  simp only [linkHealthRegs, List.mem_cons, List.not_mem_nil, or_false] at mem
  obtain rfl | rfl | rfl | rfl := mem
  · simp only [readReg, healthWord, link, health]
  · exact bad
  · exact good
  · exact last

/-- No other register reads a link-health field, whatever is put there. -/
theorem readReg_setLinkHealth_of_notMem {r : Reg} (other : r ∉ linkHealthRegs) (s : State) (link : LinkState)
    (health : Bool) (bad good last : Word) :
    readReg r { s with linkState := link, isHealthy := health, badCnt := bad, goodCnt := good, lastGoodTs := last }
      = readReg r s := by
  cases r with
  | health | badCnt | goodCnt | lastGoodTs => exact absurd (by decide) other
  | cmd | status | result | sumacc | threshold | record => rfl

/-- INIT and a reset of the same state write the same values to the link-health fields (R121, R150). -/
theorem readReg_exec_init_eq_resetBlock {r : Reg} (mem : r ∈ linkHealthRegs) {s t : State}
    (done : exec .init s = .next t) : readReg r t = readReg r s.resetBlock := by
  cases (exec_init s).symm.trans done
  exact readReg_congr_of_mem_linkHealthRegs mem rfl rfl rfl rfl rfl

theorem readReg_exec_init_of_notMem {r : Reg} (other : r ∉ linkHealthRegs) {s t : State}
    (done : exec .init s = .next t) : readReg r t = readReg r s := by
  cases (exec_init s).symm.trans done
  exact readReg_setLinkHealth_of_notMem other s _ _ _ _ _

/-- Settles O30: each register is a link-health one, read as after a reset (`readReg_exec_init_eq_resetBlock`), or another,
read as before (`readReg_exec_init_of_notMem`). -/
theorem initSetsHealthLikeReset : Obligations.InitSetsHealthLikeReset := by
  unfold Obligations.InitSetsHealthLikeReset
  intro s
  have done := exec_init s
  have likeReset {r : Reg} (mem : r ∈ linkHealthRegs) := readReg_exec_init_eq_resetBlock mem done
  have kept {r : Reg} (other : r ∉ linkHealthRegs) := readReg_exec_init_of_notMem other done
  exact ⟨_, done, likeReset (by decide), likeReset (by decide), likeReset (by decide), likeReset (by decide),
    kept (by decide), fun _ => kept (by simp [linkHealthRegs]), kept (by decide), kept (by decide), kept (by decide)⟩

end Sys2Proof.Machine
end

section
/-! The encoding family, continued (30_encoding.md): a word and its fields (R57), decode against encode (R58, R59, R71),
the opcode map (R59), and a command word reaching the block (R14, log entry 6). -/

namespace Sys2Proof

/-! ### A word and its fields -/

/-- R57: putting a word together undoes taking it apart. -/
@[simp] theorem wordOf_fieldsOf (w : Word) : wordOf (fieldsOf w) = w := by
  unfold wordOf fieldsOf
  rw [BitVec.append_assoc, BitVec.append_assoc]
  ext i hi
  simp
  grind

theorem toNat_append_byte {n : Nat} (x : BitVec n) (b : Byte) : (x ++ b).toNat = x.toNat * 2 ^ 8 + b.toNat := by
  rw [BitVec.toNat_append, ← Nat.shiftLeft_add_eq_or_of_lt b.isLt, Nat.shiftLeft_eq]

/-- R57: the byte order of the four fields, as a number. -/
theorem wordOf_toNat (f : Fields) :
    (wordOf f).toNat = f.opc.toNat * 2 ^ 24 + f.a.toNat * 2 ^ 16 + f.b.toNat * 2 ^ 8 + f.c.toNat := by
  simp only [wordOf, toNat_append_byte]
  omega

/-! ### Decode and encode -/

/-- The decoder's row for a command gives that command back (R59, R71). -/
theorem decodeFields_instrFields (i : Instr) : decodeFields (instrFields i) = .ok i := by
  cases i <;> rfl

theorem decodeFields_eq_ok_iff {f : Fields} {i : Instr} : decodeFields f = .ok i ↔ f = instrFields i :=
  ⟨eq_instrFields_of_decodeFields, fun own => own ▸ decodeFields_instrFields i⟩

theorem eq_wordOf_iff {w : Word} {f : Fields} : w = wordOf f ↔ fieldsOf w = f :=
  ⟨fun h => h ▸ fieldsOf_wordOf f, fun h => h ▸ (wordOf_fieldsOf w).symm⟩

/-- R58, R59, R71: decode is the inverse of encode, and defined nowhere else. -/
theorem decode_eq_ok_iff {w : Word} {i : Instr} : decode w = .ok i ↔ w = encode i :=
  decodeFields_eq_ok_iff.trans eq_wordOf_iff.symm

theorem decode_encode (i : Instr) : decode (encode i) = .ok i :=
  decode_eq_ok_iff.2 rfl

/-! ### The opcode map -/

theorem OpcodeRow.admits_iff {r : OpcodeRow} {f : Fields} :
    r.admits f = true ↔ f.opc = r.opc ∧ (r.zeroA = true → f.a = 0) ∧ (r.zeroB = true → f.b = 0) ∧
      (r.zeroC = true → f.c = 0) := by
  simp only [OpcodeRow.admits, Bool.and_eq_true, Bool.or_eq_true, Bool.not_eq_true', beq_iff_eq, and_assoc,
    or_iff_not_imp_left, Bool.not_eq_false]

/-- Every row of the map is the row of a command, whose operands are the fields the row leaves free. -/
theorem exists_instrFields_of_wf {f : Fields} (h : f.wf = true) : ∃ i, f = instrFields i := by
  obtain ⟨opc, a, b, c⟩ := f
  obtain ⟨row, mem, fits⟩ := List.any_eq_true.1 h
  rw [OpcodeRow.admits_iff] at fits
  simp only [opcodeRows, List.mem_cons, List.not_mem_nil, or_false] at mem
  obtain rfl | rfl | rfl | rfl | rfl | rfl | rfl | rfl | rfl | rfl | rfl | rfl := mem
  · exact ⟨.crc8 a b, by simpa [instrFields] using fits⟩
  · exact ⟨.crcchk a b c, by simpa [instrFields] using fits⟩
  · exact ⟨.sumclr, by simpa [instrFields] using fits⟩
  · exact ⟨.sumadd c, by simpa [instrFields] using fits⟩
  · exact ⟨.stuff c, by simpa [instrFields] using fits⟩
  · exact ⟨.unesc c, by simpa [instrFields] using fits⟩
  · exact ⟨.pwron, by simpa [instrFields] using fits⟩
  · exact ⟨.pwroff, by simpa [instrFields] using fits⟩
  · exact ⟨.clean, by simpa [instrFields] using fits⟩
  · exact ⟨.reqdata, by simpa [instrFields] using fits⟩
  · exact ⟨.read, by simpa [instrFields] using fits⟩
  · exact ⟨.init, by simpa [instrFields] using fits⟩

/-! ### The statements -/

/-- Settles O1: a word is its fields (`eq_wordOf_iff`), and fields decode to a command exactly when they are the fields
of its own word (`decodeFields_eq_ok_iff`). -/
theorem decodeAndEncodeAgree : Obligations.DecodeAndEncodeAgree :=
  fun _ _ => decode_eq_ok_iff

/-- Settles O2: what decodes fits a row (`wf_of_decode`), and what fits a row is a command's own word. -/
theorem legalWordsAreTheOpcodeMap : Obligations.LegalWordsAreTheOpcodeMap := by
  unfold Obligations.LegalWordsAreTheOpcodeMap
  intro w
  constructor
  · rintro ⟨i, decoded⟩
    exact wf_of_decode decoded
  · intro fits
    obtain ⟨i, own⟩ := exists_instrFields_of_wf fits
    exact ⟨i, decodeFields_eq_ok_iff.2 own⟩

/-- Settles O3: the two inverses and the value of the concatenation. -/
theorem fieldsAndWordAgree : Obligations.FieldsAndWordAgree :=
  ⟨wordOf_fieldsOf, fieldsOf_wordOf, wordOf_toNat⟩

/-- Settles O4: the legal words are the encodings of their commands, and each illegal one ends in a refusing branch of
the decoder. -/
theorem listedWordsDecode : Obligations.ListedWordsDecode :=
  ⟨decode_encode (.crc8 0xBE 0xEF), decode_encode (.crcchk 0x00 0x01 0xB0), decode_encode .sumclr,
    decode_encode (.sumadd 0x03), decode_encode (.stuff 0x11), decode_encode (.unesc 0x33), decode_encode .pwron,
    decode_encode .pwroff, decode_encode .clean, decode_encode .reqdata, decode_encode .read, decode_encode .init,
    rfl, rfl, rfl, rfl, rfl, rfl, rfl⟩

namespace Machine

theorem acceptCommand_of_decode {w : Word} {i : Instr} (h : decode w = .ok i) (s : State) :
    acceptCommand w s = exec i s := by
  rw [acceptCommand, h]

/-- Settles O5: the write reaches the decoder (`step_of_cmd_write`), which runs the command the word decodes to. -/
theorem stepRunsTheDecodedCommand : Obligations.StepRunsTheDecodedCommand := by
  unfold Obligations.StepRunsTheDecodedCommand
  intro s w i ops idle host write decoded
  rw [step_of_cmd_write idle host write, acceptCommand_of_decode decoded]

theorem decode_of_decodeTableWord {nbits w : Nat} {i : Instr} (h : decodeTableWord nbits w = some i) :
    decode (tableWord nbits w) = .ok i := by
  unfold decodeTableWord at h
  cases decoded : decode (tableWord nbits w) with
  | ok j =>
    rw [decoded] at h
    exact congrArg _ (Option.some.inj h)
  | error e =>
    rw [decoded] at h
    cases h

/-- Settles O7: `withFetchWord` makes the host's next operation the write of the word to `CMD`, with the block idle, so
O5 applies; the turn and the operation it put in front are the ones that are spent. -/
theorem placedCommandRunsNext : Obligations.PlacedCommandRunsNext := by
  unfold Obligations.PlacedCommandRunsNext
  intro s nbits w i table
  exact stepRunsTheDecodedCommand (s.withFetchWord nbits w) (tableWord nbits w) i s.program rfl rfl rfl
    (decode_of_decodeTableWord table)

end Machine

end Sys2Proof
end

section
/-! What one step can change, said once for the statements about the whole machine: the engine's turn, the host's turn
with the command it accepts, and the registers that only a READ's commit, INIT and a reset write (R17, R21 to R24). -/

namespace Sys2Proof.Machine

/-! ### The engine's turn -/

theorem afterDecode_eq (r : DecodeNext) (s : State) : ∃ e, afterDecode r s = s.setEngine e := by
  obtain ⟨e, moved, -⟩ := afterDecode_spec r s
  exact ⟨e, moved⟩

theorem endFailed_eq (k : FailKind) (s : State) : ∃ e, endFailed k s = s.setEngine e :=
  afterDecode_eq (.failed k) s

/-- Before its commit the engine touches the sequencer and the ports only, each as R40 to R42 allow (R27, R119). -/
theorem engineTurn_frame (s : State) :
    (∃ r, s.engine = .commit r ∧ engineTurn s = commitRead r s) ∨
    ∃ e n bs txs as d, engineTurn s = { s with
      engine := e, rx := s.rx.drop n, tx := s.tx ++ bs, busLog := s.busLog ++ txs, busAnswers := as, draws := d } := by
  rcases engineTurn_cases s with hold | ⟨-, look⟩ | ⟨d, b, q, -, -, queue, pop⟩ | ⟨-, ready⟩ | ⟨-, data⟩ |
    ⟨k, -, discard⟩ | ⟨g, k, -, command⟩ | ⟨g, k, t0, -, -, waited⟩ | ⟨r, at_commit, commit⟩
  · exact .inr ⟨s.engine, 0, [], [], s.busAnswers, s.draws, by simp [hold]⟩
  · obtain ⟨e, moved⟩ := afterDecode_eq (serialLook s) s
    exact .inr ⟨e, 0, [], [], s.busAnswers, s.draws, by simp [look, moved, State.setEngine]⟩
  · obtain ⟨e, moved⟩ := afterDecode_eq (serialPopped d b) { s with rx := q }
    exact .inr ⟨e, 1, [], [], s.busAnswers, s.draws, by simp [pop, moved, State.setEngine, queue]⟩
  · obtain ⟨e, moved⟩ := afterDecode_eq (if busReady s.nextAnswer then .goOn .data else .failed .notReady)
      (s.busRead readyPtr Config.readyLen)
    exact .inr ⟨e, 0, [], [.read s.cfg.busDevAddr readyPtr Config.readyLen s.nextAnswer], s.busAnswers.tail,
      if s.busAnswers = [] then s.draws + 1 else s.draws,
      by rw [ready, readyTurn, moved]; simp [State.setEngine, State.busRead]⟩
  · obtain ⟨e, moved⟩ := afterDecode_eq (busVerify s.nextAnswer) (s.busRead s.cfg.busAddrData Config.dataLen)
    exact .inr ⟨e, 0, [], [.read s.cfg.busDevAddr s.cfg.busAddrData Config.dataLen s.nextAnswer], s.busAnswers.tail,
      if s.busAnswers = [] then s.draws + 1 else s.draws,
      by rw [data, dataTurn, moved]; simp [State.setEngine, State.busRead]⟩
  · obtain ⟨e, moved⟩ := endFailed_eq k (s.rxDiscard Config.discardMax)
    exact .inr ⟨e, Config.discardMax, [], [], s.busAnswers, s.draws,
      by rw [discard, moved]; simp [State.setEngine, State.rxDiscard]⟩
  · obtain ⟨bs, txs, sent, -⟩ := send_spec (stageCmd g) s
    exact .inr ⟨.wait g k s.now, 0, bs, txs, s.busAnswers, s.draws, by simp [command, sent, State.setEngine]⟩
  · exact .inr ⟨afterStage g k s.now, 0, [], [], s.busAnswers, s.draws, by simp [waited, State.setEngine]⟩
  · exact .inl ⟨r, at_commit, commit⟩

/-! ### The host's turn -/

theorem acceptedCommand_of_write {s : State} {addr : Nat} {v : Word} {i : Instr} {ops : List HostOp}
    (idle : s.busy = false) (host : (nextTurn s).1 = .host)
    (write : s.program = .access (.write addr 4 v) :: ops) (at_cmd : offsetOf s.cfg addr = some 0x00)
    (decoded : decode v = .ok i) : acceptedCommand s = some i := by
  have word : acceptedWord s = some v := by simp [acceptedWord, idle, host, write, at_cmd]
  rw [acceptedCommand, word, Option.bind_some, decoded]
  rfl

/-- Everything the host's turn can do when it answers a next state: it runs the command it accepted, the block being
idle; or it touches the sticky bits, `THRESHOLD` and the host's own lists, of the block's registers only `OVERRUN`
during a READ (R17, R18, R46, R47, R60). -/
theorem hostTurn_cases {s t : State} (host : (nextTurn s).1 = .host)
    (h : hostTurn { s with sched := s.sched.tail } = .next t) :
    (∃ i ops, acceptedCommand s = some i ∧ s.busy = false ∧ (∀ op ∈ ops, op ∈ s.program) ∧
      exec i { s with sched := s.sched.tail, program := ops } = .next t) ∨
    ∃ il ov th ops rs, (s.busy = true → il = s.illegal ∧ th = s.threshold) ∧ (∀ op ∈ ops, op ∈ s.program) ∧
      t = { s with
        sched := s.sched.tail, illegal := il, overrun := ov, threshold := th, program := ops
        hostReads := s.hostReads ++ rs } := by
  rcases hostTurn_next h with ⟨-, rfl⟩ | ⟨ops, poll, rfl⟩ | ⟨a, ops, access, answers⟩
  · exact .inr ⟨s.illegal, s.overrun, s.threshold, s.program, [], fun _ => ⟨rfl, rfl⟩, fun _ mem => mem, by simp⟩
  · have sub : ∀ op ∈ ops, op ∈ s.program := fun op mem => poll ▸ List.mem_cons_of_mem _ mem
    refine .inr ⟨s.illegal, s.overrun, s.threshold, if s.busy then s.program else ops, [(0x04, statusWord s)],
      fun _ => ⟨rfl, rfl⟩, ?_, ?_⟩
    · split
      · exact fun _ mem => mem
      · exact sub
    · have same : ({ s with sched := s.sched.tail } : State).busy = s.busy := busy_congr rfl
      rw [pollTurn, same]
      split <;> rfl
  · have program : s.program = .access a :: ops := access
    have sub : ∀ op ∈ ops, op ∈ s.program := fun op mem => program ▸ List.mem_cons_of_mem _ mem
    have idle_of (idle : ({ s with sched := s.sched.tail, program := ops } : State).busy = false) : s.busy = false :=
      (busy_congr rfl).trans idle
    rcases hostAccess_next answers with rfl | ⟨off, r, -, rfl⟩ | ⟨-, rfl⟩ |
      ⟨addr, v, idle, rfl, at_cmd, ⟨i, decoded, runs⟩ | rfl⟩ | ⟨v, idle, rfl | rfl⟩
    · exact .inr ⟨_, _, _, ops, [], fun _ => ⟨rfl, rfl⟩, sub, by rw [List.append_nil]⟩
    · exact .inr ⟨_, _, _, ops, [_], fun _ => ⟨rfl, rfl⟩, sub, rfl⟩
    · exact .inr ⟨_, true, _, ops, [], fun _ => ⟨rfl, rfl⟩, sub, by rw [List.append_nil]; rfl⟩
    · exact .inl ⟨i, ops, acceptedCommand_of_write (idle_of idle) host program at_cmd decoded, idle_of idle, sub, runs⟩
    · exact .inr ⟨true, _, _, ops, [], fun busy => absurd busy (by simp [idle_of idle]), sub,
        by rw [List.append_nil]; rfl⟩
    · exact .inr ⟨_, _, _, ops, [], fun busy => absurd busy (by simp [idle_of idle]), sub,
        by rw [List.append_nil]; rfl⟩
    · exact .inr ⟨_, _, v, ops, [], fun busy => absurd busy (by simp [idle_of idle]), sub,
        by rw [List.append_nil]; rfl⟩

/-! ### A step -/

/-- What a step can do, with the command it runs (`hostTurn_cases`) and the engine's frame taken apart. -/
theorem step_cases {s t : State} (h : step s = .next t) :
    ((nextTurn s).1 = .engine ∧ t = engineTurn { s with sched := s.sched.tail }) ∨
    ((nextTurn s).1 = .reset ∧ t = State.resetBlock { s with sched := s.sched.tail }) ∨
    ((nextTurn s).1 = .host ∧ ∃ i ops, acceptedCommand s = some i ∧ s.busy = false ∧ (∀ op ∈ ops, op ∈ s.program) ∧
      exec i { s with sched := s.sched.tail, program := ops } = .next t) ∨
    ((nextTurn s).1 = .host ∧ ∃ il ov th ops rs, (s.busy = true → il = s.illegal ∧ th = s.threshold) ∧
      (∀ op ∈ ops, op ∈ s.program) ∧ t = { s with
        sched := s.sched.tail, illegal := il, overrun := ov, threshold := th, program := ops
        hostReads := s.hostReads ++ rs }) ∨
    (∃ bs, (nextTurn s).1 = .peer bs ∧ t = { s with sched := s.sched.tail, rx := s.rx ++ bs }) ∨
    (∃ bs, (nextTurn s).1 = .answer bs ∧ t = { s with sched := s.sched.tail, busAnswers := s.busAnswers ++ [bs] }) ∨
    (∃ d, (nextTurn s).1 = .tick d ∧ t = { s with sched := s.sched.tail, now := s.now + d }) := by
  rcases step_next h with ⟨turn, host⟩ | engine | peer | answer | tick | reset
  · rcases hostTurn_cases turn host with command | access
    · exact .inr (.inr (.inl ⟨turn, command⟩))
    · exact .inr (.inr (.inr (.inl ⟨turn, access⟩)))
  · exact .inl engine
  · exact .inr (.inr (.inr (.inr (.inl peer))))
  · exact .inr (.inr (.inr (.inr (.inr (.inl answer)))))
  · exact .inr (.inr (.inr (.inr (.inr (.inr tick)))))
  · exact .inr (.inl reset)

/-! ### The registers a READ's commit writes -/

/-- The registers that only a READ's commit, INIT and a reset write hold what they held (R17, R21 to R24). -/
structure KeepsOutcome (s t : State) : Prop where
  recValid : t.recValid = s.recValid
  lastResult : t.lastResult = s.lastResult
  recovered : t.recovered = s.recovered
  linkState : t.linkState = s.linkState
  isHealthy : t.isHealthy = s.isHealthy
  badCnt : t.badCnt = s.badCnt
  goodCnt : t.goodCnt = s.goodCnt
  lastGoodTs : t.lastGoodTs = s.lastGoodTs
  record : t.record = s.record
  resets : t.resets = s.resets

theorem exec_keepsOutcome {i : Instr} {s t : State} (h : exec i s = .next t) (not_init : i ≠ .init) :
    KeepsOutcome s t := by
  rcases exec_spec i s with ⟨v, he, -⟩ | ⟨v, he, -⟩ | ⟨k, he, -⟩ | ⟨he, -⟩ | ⟨-, rfl⟩
  case inr.inr.inl =>
    cases he.symm.trans h
    obtain ⟨bs, txs, sent, -⟩ := send_spec k s
    rw [sent]
    exact ⟨rfl, rfl, rfl, rfl, rfl, rfl, rfl, rfl, rfl, rfl⟩
  case inr.inr.inr.inr => exact absurd rfl not_init
  all_goals
    cases he.symm.trans h
    exact ⟨rfl, rfl, rfl, rfl, rfl, rfl, rfl, rfl, rfl, rfl⟩

/-- R17, R21 to R24: who writes the outcome of a READ and the link health: a commit, INIT and a reset. -/
theorem step_outcome_cases {s t : State} (h : step s = .next t) :
    KeepsOutcome s t ∨
    (∃ r, s.engine = .commit r ∧ (nextTurn s).1 = .engine ∧ t = commitRead r { s with sched := s.sched.tail }) ∨
    (acceptedCommand s = some .init ∧ s.busy = false ∧
      ∃ ops, exec .init { s with sched := s.sched.tail, program := ops } = .next t) ∨
    ((nextTurn s).1 = .reset ∧ t = State.resetBlock { s with sched := s.sched.tail }) := by
  rcases step_cases h with ⟨turn, rfl⟩ | reset | ⟨-, i, ops, accepted, idle, -, runs⟩ |
    ⟨-, il, ov, th, ops, rs, -, -, rfl⟩ | ⟨bs, -, rfl⟩ | ⟨bs, -, rfl⟩ | ⟨d, -, rfl⟩
  · rcases engineTurn_frame { s with sched := s.sched.tail } with
      ⟨r, at_commit, commit⟩ | ⟨e, n, bs, txs, as, d, moved⟩
    · exact .inr (.inl ⟨r, at_commit, turn, commit⟩)
    · rw [moved]
      exact .inl ⟨rfl, rfl, rfl, rfl, rfl, rfl, rfl, rfl, rfl, rfl⟩
  · exact .inr (.inr (.inr reset))
  · by_cases init : i = .init
    · subst init
      exact .inr (.inr (.inl ⟨accepted, idle, ops, runs⟩))
    · have kept := exec_keepsOutcome runs init
      exact .inl ⟨kept.recValid, kept.lastResult, kept.recovered, kept.linkState, kept.isHealthy, kept.badCnt,
        kept.goodCnt, kept.lastGoodTs, kept.record, kept.resets⟩
  all_goals exact .inl ⟨rfl, rfl, rfl, rfl, rfl, rfl, rfl, rfl, rfl, rfl⟩

end Sys2Proof.Machine
end

section
/-! The invariant of the states the block reaches: it holds after a reset (R150), and every step keeps it (R20, R22,
R27, R33, R120, R133), the registers and the place of the READ in progress apart. -/

namespace Sys2Proof.Machine

/-! ### After a reset -/

/-- The registers hold their reset values, with `LAST_GOOD_TS` the clock `now` (R150). -/
structure ResetValues (t : State) (now : Word) : Prop where
  illegal : t.illegal = false
  overrun : t.overrun = false
  recValid : t.recValid = false
  lastResult : t.lastResult = .noneYet
  recovered : t.recovered = false
  result : t.result = 0
  acc : t.acc = 0
  threshold : t.threshold = 1200000
  linkState : t.linkState = .initializing
  isHealthy : t.isHealthy = false
  badCnt : t.badCnt = 0
  goodCnt : t.goodCnt = 1
  lastGoodTs : t.lastGoodTs = now
  engine : t.engine = .idle

theorem resetBlock_resetValues (s : State) : ResetValues s.resetBlock s.now :=
  ⟨rfl, rfl, rfl, rfl, rfl, rfl, rfl, rfl, rfl, rfl, rfl, rfl, rfl, rfl⟩

theorem resetAt_resetValues (p : Params) (now : Word) : ResetValues (State.resetAt p now) now :=
  ⟨rfl, rfl, rfl, rfl, rfl, rfl, rfl, rfl, rfl, rfl, rfl, rfl, rfl, rfl⟩

theorem ResetValues.inv {t : State} {now : Word} (h : ResetValues t now) : Inv t where
  healthy_iff := by simp [h.isHealthy, h.linkState]
  degraded_iff := by simp [h.linkState, h.badCnt, Config.degradeLimit]
  good_pos := by simp [h.goodCnt]
  healthy_read := by simp [h.linkState]
  success_valid := by simp [h.lastResult]
  none_invalid := fun _ => h.recValid
  recovered_failed := by simp [h.recovered]
  result_mode := by simp [h.lastResult]
  engine_ok := by rw [h.engine]; trivial

/-- Settles O53: the reset values give each part of the invariant (`ResetValues.inv`). -/
theorem resetHasTheInvariant : Obligations.ResetHasTheInvariant :=
  ⟨fun p now => (resetAt_resetValues p now).inv, (resetAt_resetValues Config.defaultParams 0).inv⟩

/-! ### The registers of the invariant -/

theorem Inv.of_keepsOutcome {s t : State} (inv : Inv s) (kept : KeepsOutcome s t) (cfg : t.cfg = s.cfg)
    (place : engineOk t.cfg.mode t.rx.length t.engine) : Inv t where
  healthy_iff := by rw [kept.isHealthy, kept.linkState]; exact inv.healthy_iff
  degraded_iff := by rw [kept.linkState, kept.badCnt]; exact inv.degraded_iff
  good_pos := by rw [kept.goodCnt]; exact inv.good_pos
  healthy_read := by rw [kept.linkState, kept.recValid, kept.goodCnt]; exact inv.healthy_read
  success_valid := by rw [kept.lastResult, kept.recValid]; exact inv.success_valid
  none_invalid := by rw [kept.lastResult, kept.recValid]; exact inv.none_invalid
  recovered_failed := by rw [kept.recovered, kept.lastResult]; exact inv.recovered_failed
  result_mode := by rw [kept.lastResult, cfg]; exact inv.result_mode
  engine_ok := place

/-- A successful commit makes the link healthy, with a valid record, whatever it was before (R115). -/
theorem Inv.commitOk {s : State} (inv : Inv s) (p : List Byte) (t1 : Word) : Inv (commitOk p t1 s) where
  healthy_iff := by simp
  degraded_iff := by simp [Config.degradeLimit]
  good_pos := by
    rw [commitOk_goodCnt, sat32_toNat]
    omega
  healthy_read := fun _ => by
    have := inv.good_pos
    rw [commitOk_goodCnt, sat32_toNat]
    exact ⟨rfl, by omega⟩
  success_valid := fun _ => rfl
  none_invalid := by simp
  recovered_failed := by simp
  result_mode := by simp
  engine_ok := trivial

/-- A failed commit degrades the link exactly when the count reaches the limit (R116, R120). -/
theorem Inv.commitFail {s : State} (inv : Inv s) {k : FailKind} (mode : kindIn s.cfg.mode k = true)
    (t2 : Option Word) : Inv (commitFail k t2 s) where
  healthy_iff := by
    by_cases reached : degrades s = true
    · simp [reached]
    · simpa [reached] using inv.healthy_iff
  degraded_iff := by
    rw [commitFail_badCnt, sat32_toNat, Config.degradeLimit]
    by_cases reached : degrades s = true
    · have := (degrades_iff s).1 reached
      simp only [commitFail_linkState, if_pos reached, true_iff]
      omega
    · have below := mt (degrades_iff s).2 reached
      simp only [commitFail_linkState, if_neg reached, inv.degraded_iff, Config.degradeLimit]
      omega
  good_pos := inv.good_pos
  healthy_read := by
    by_cases reached : degrades s = true
    · simp [reached]
    · simpa [reached] using inv.healthy_read
  success_valid := by simp
  none_invalid := by simp
  recovered_failed := fun _ => ⟨k, rfl⟩
  result_mode := fun j recorded => by
    obtain rfl := LastResult.failed.inj recorded
    exact mode
  engine_ok := trivial

theorem Inv.commitRead {s : State} (inv : Inv s) {r : ReadEnd} (at_commit : s.engine = .commit r) :
    Inv (commitRead r s) := by
  have place := inv.engine_ok
  rw [at_commit] at place
  cases r with
  | ok p t1 => exact inv.commitOk p t1
  | fail k t2 => exact inv.commitFail place t2

/-- INIT forgets the link health and keeps the outcome of the last READ (R121). -/
theorem Inv.exec_init {s t : State} (inv : Inv s) (h : exec .init s = .next t) : Inv t := by
  cases (Machine.exec_init s).symm.trans h
  exact {
    healthy_iff := by simp
    degraded_iff := by simp [Config.degradeLimit]
    good_pos := by simp [Config.goodCntInit]
    healthy_read := by simp
    success_valid := inv.success_valid
    none_invalid := inv.none_invalid
    recovered_failed := inv.recovered_failed
    result_mode := inv.result_mode
    engine_ok := inv.engine_ok }

/-- The invariant does not read the schedule and the host's program. -/
theorem Inv.of_spent {s : State} (inv : Inv s) (ts : List Turn) (ops : List HostOp) :
    Inv { s with sched := ts, program := ops } :=
  inv.of_keepsOutcome ⟨rfl, rfl, rfl, rfl, rfl, rfl, rfl, rfl, rfl, rfl⟩ rfl inv.engine_ok

/-! ### Where one operation of the decode leads -/

/-- What an operation of a decode may lead to, with `queued` bytes left behind it: a place where a decode can stand, a
whole payload, or a failure kind of the block's mode, discarding only on the serial link (R92 to R96, R104, R105). -/
def nextOk (m : Mode) (queued : Nat) : DecodeNext → Prop
  | .goOn d => decodeOk m queued d
  | .done p => p.length = Config.payloadLen
  | .failed k => kindIn m k = true
  | .failedDiscard k => m = .serial ∧ discardKind k = true

theorem serialLook_nextOk (s : State) : nextOk .serial s.rx.length (serialLook s) := by
  unfold serialLook
  split
  · rfl
  · split
    · exact ⟨rfl, rfl⟩
    · split
      · rfl
      · next enough => exact ⟨rfl, by decide, by simpa [State.rxAvail] using enough⟩

theorem serialPush_nextOk {p : List Byte} (short : p.length < Config.payloadLen) (sum x : Byte) (queued : Nat) :
    nextOk .serial queued (serialPush p sum x) := by
  rcases serialPush_spec p sum x with ⟨more, push⟩ | ⟨full, push⟩
  · rw [push]
    exact ⟨rfl, by simpa using more⟩
  · rw [push]
    exact ⟨rfl, by rw [List.length_append, List.length_singleton]; omega⟩

/-- Fewer than 5 header bytes popped and enough bytes queued: the next pop leaves enough again (R93). -/
theorem serialHeader_nextOk {h : List Byte} {queued : Nat} (enough : Config.minFrame ≤ h.length + (queued + 1))
    (b : Byte) : nextOk .serial queued (serialHeader h b) := by
  unfold serialHeader
  split
  · next more =>
    refine ⟨rfl, more, ?_⟩
    rw [List.length_append, List.length_singleton]
    omega
  · split
    · exact ⟨rfl, rfl⟩
    · exact ⟨rfl, by decide⟩

theorem serialPayload_nextOk {p : List Byte} (short : p.length < Config.payloadLen) (sum x : Byte) (queued : Nat) :
    nextOk .serial queued (serialPayload p sum x) := by
  unfold serialPayload
  split
  · exact ⟨rfl, short⟩
  · exact serialPush_nextOk short sum x queued

theorem serialEscape_nextOk {p : List Byte} (short : p.length < Config.payloadLen) (sum y : Byte) (queued : Nat) :
    nextOk .serial queued (serialEscape p sum y) := by
  unfold serialEscape
  split
  · exact serialPush_nextOk short sum _ queued
  · exact ⟨rfl, rfl⟩

theorem serialTrailer_nextOk {p : List Byte} (full : p.length = Config.payloadLen) (sum c e : Byte) (queued : Nat) :
    nextOk .serial queued (serialTrailer p sum c e) := by
  unfold serialTrailer
  split
  · exact ⟨rfl, rfl⟩
  · split
    · exact ⟨rfl, rfl⟩
    · exact full

/-- Popping one byte where the decode may stand leads to a place where it may stand, with one byte less queued. -/
theorem serialPopped_nextOk {d : DecodeStep} {queued : Nat} (pops : popsNext (.decode d) = true)
    (place : decodeOk .serial (queued + 1) d) (b : Byte) : nextOk .serial queued (serialPopped d b) := by
  cases d with
  | header h =>
    obtain ⟨-, -, enough⟩ := place
    exact serialHeader_nextOk enough b
  | payload p sum =>
    obtain ⟨-, short⟩ := place
    exact serialPayload_nextOk short sum b queued
  | escape p sum =>
    obtain ⟨-, short⟩ := place
    exact serialEscape_nextOk short sum b queued
  | chk p sum => exact place
  | trailer p sum c =>
    obtain ⟨-, full⟩ := place
    exact serialTrailer_nextOk full sum c b queued
  | look | ready | data => cases pops

theorem busVerify_nextOk (d : List Byte) (queued : Nat) : nextOk .bus queued (busVerify d) := by
  rcases busVerify_spec d with ⟨-, verified⟩ | ⟨-, -, verified⟩ | ⟨p, -, -, full, verified⟩
  · rw [verified]; rfl
  · rw [verified]; rfl
  · rw [verified]; exact full

/-! ### Where the engine's turn leads -/

theorem endFailed_engineOk {k : FailKind} {m : Mode} (kind : kindIn m k = true) (queued : Nat) (s : State) :
    engineOk m queued (endFailed k s).engine := by
  rcases endFailed_spec k s with ⟨-, ended⟩ | ⟨-, ended⟩ <;> rw [ended] <;> exact kind

theorem afterDecode_engineOk {r : DecodeNext} {m : Mode} {queued : Nat} (ok : nextOk m queued r) (s : State) :
    engineOk m queued (afterDecode r s).engine := by
  cases r with
  | goOn d => exact ok
  | done p => exact ok
  | failed k => exact endFailed_engineOk ok queued s
  | failedDiscard k => exact ok

@[simp] theorem afterDecode_rx (r : DecodeNext) (s : State) : (afterDecode r s).rx = s.rx := by
  obtain ⟨e, moved⟩ := afterDecode_eq r s
  simp [moved]

@[simp] theorem endFailed_rx (k : FailKind) (s : State) : (endFailed k s).rx = s.rx :=
  afterDecode_rx (.failed k) s

theorem kindIn_serial_of_discardKind {k : FailKind} (h : discardKind k = true) : kindIn .serial k = true := by
  revert h
  cases k <;> decide

/-- From where a READ can stand, the engine's turn leads to where a READ can stand (R114). -/
theorem engineTurn_engineOk {s : State} (place : engineOk s.cfg.mode s.rx.length s.engine) :
    engineOk s.cfg.mode (engineTurn s).rx.length (engineTurn s).engine := by
  rcases engineTurn_cases s with hold | ⟨at_look, look⟩ | ⟨d, b, q, at_pop, pops, queue, pop⟩ | ⟨at_ready, ready⟩ |
    ⟨at_data, data⟩ | ⟨k, at_discard, discard⟩ | ⟨g, k, at_recover, command⟩ | ⟨g, k, t0, at_wait, -, waited⟩ |
    ⟨r, -, commit⟩
  · rw [hold]
    exact place
  · rw [at_look] at place
    rw [look, afterDecode_rx, show s.cfg.mode = .serial from place]
    exact afterDecode_engineOk (serialLook_nextOk s) s
  · rw [at_pop] at pops
    rw [at_pop, queue, List.length_cons] at place
    have serial : s.cfg.mode = .serial := by
      cases d with
      | header | payload | escape | chk | trailer => exact place.1
      | look | ready | data => cases pops
    rw [serial] at place
    rw [pop, afterDecode_rx, serial]
    exact afterDecode_engineOk (serialPopped_nextOk pops place b) _
  · rw [at_ready] at place
    rw [ready, readyTurn, afterDecode_rx, show s.cfg.mode = .bus from place]
    apply afterDecode_engineOk
    split <;> rfl
  · rw [at_data] at place
    rw [data, dataTurn, afterDecode_rx, show s.cfg.mode = .bus from place]
    exact afterDecode_engineOk (busVerify_nextOk _ _) _
  · rw [at_discard] at place
    obtain ⟨serial, kind⟩ := place
    rw [discard, endFailed_rx, serial]
    exact endFailed_engineOk (kindIn_serial_of_discardKind kind) _ _
  · rw [at_recover] at place
    rw [command]
    exact place
  · rw [at_wait] at place
    rw [waited]
    cases g <;> exact place
  · rw [commit]
    cases r <;> trivial

/-! ### Every step -/

theorem decodeOk_mono {m : Mode} {queued more : Nat} {d : DecodeStep} (h : decodeOk m queued d) (le : queued ≤ more) :
    decodeOk m more d := by
  cases d with
  | header =>
    obtain ⟨mode, short, enough⟩ := h
    exact ⟨mode, short, by omega⟩
  | look | payload | escape | chk | trailer | ready | data => exact h

/-- Bytes that arrive leave the READ where it can stand (R92). -/
theorem engineOk_mono {m : Mode} {queued more : Nat} {e : Engine} (h : engineOk m queued e) (le : queued ≤ more) :
    engineOk m more e := by
  cases e with
  | decode d => exact decodeOk_mono h le
  | commit r => cases r <;> exact h
  | idle | discard | recover | wait => exact h

theorem exec_engineOk {i : Instr} {s t : State} (h : exec i s = .next t)
    (place : engineOk s.cfg.mode s.rx.length s.engine) : engineOk t.cfg.mode t.rx.length t.engine := by
  rcases exec_spec i s with ⟨v, he, -⟩ | ⟨v, he, -⟩ | ⟨k, he, -⟩ | ⟨he, -⟩ | ⟨he, -⟩
  · cases he.symm.trans h
    exact place
  · cases he.symm.trans h
    exact place
  · cases he.symm.trans h
    obtain ⟨bs, txs, sent, -⟩ := send_spec k s
    rw [sent]
    exact place
  · cases he.symm.trans h
    rw [State.setEngine_engine, State.setEngine_cfg]
    cases mode : s.cfg.mode <;> rfl
  · cases he.symm.trans h
    exact place

theorem step_engineOk {s t : State} (h : step s = .next t) (place : engineOk s.cfg.mode s.rx.length s.engine) :
    engineOk t.cfg.mode t.rx.length t.engine := by
  rcases step_cases h with ⟨-, rfl⟩ | ⟨-, rfl⟩ | ⟨-, i, ops, -, -, -, runs⟩ | ⟨-, il, ov, th, ops, rs, -, -, rfl⟩ |
    ⟨bs, -, rfl⟩ | ⟨bs, -, rfl⟩ | ⟨d, -, rfl⟩
  · rw [engineTurn_cfg]
    exact engineTurn_engineOk place
  · trivial
  · exact exec_engineOk runs place
  · exact place
  · exact engineOk_mono place (by simp)
  · exact place
  · exact place

/-- Settles O52: the registers of the invariant are kept, or written by a commit, INIT or a reset
(`step_outcome_cases`), each of which keeps it; and the READ in progress goes on to where it can stand
(`step_engineOk`). -/
theorem everyStepKeepsTheInvariant : Obligations.EveryStepKeepsTheInvariant := by
  unfold Obligations.EveryStepKeepsTheInvariant
  intro s t inv h
  rcases step_outcome_cases h with kept | ⟨r, at_commit, -, rfl⟩ | ⟨-, -, ops, runs⟩ | ⟨-, rfl⟩
  · exact inv.of_keepsOutcome kept (step_cfg h) (step_engineOk h inv.engine_ok)
  · exact (inv.of_spent s.sched.tail s.program).commitRead at_commit
  · exact (inv.of_spent s.sched.tail ops).exec_init runs
  · exact (resetBlock_resetValues _).inv

end Sys2Proof.Machine
end

section
/-! Host accesses: which raise which fault (R44, R45, R134, R139), that nothing else stops a step, and that a host whose
operations are all legal never stops one (R140, R141). -/

namespace Sys2Proof.Machine

/-! ### Offsets of the map -/

theorem regAt_any_writable_iff (off : Nat) :
    (regAt off).any Reg.writable = true ↔ off = 0x00 ∨ off = 0x04 ∨ off = 0x10 := by
  constructor
  · intro h
    obtain ⟨r, at_off, writable⟩ := (Option.any_eq_true _ _).1 h
    rcases regAt_writable at_off writable with ⟨rfl, -⟩ | ⟨rfl, -⟩ | ⟨rfl, -⟩ <;> decide
  · rintro (rfl | rfl | rfl) <;> rfl

/-- The reserved offsets of the window, of the aligned ones (R13, R45). -/
theorem regAt_eq_none_iff {off : Nat} (window : off < 0x80) (aligned : off % 4 = 0) :
    regAt off = none ↔ (0x24 ≤ off ∧ off < 0x40) ∨ 0x68 ≤ off := by
  revert off
  decide

/-! ### One access -/

theorem acceptCommand_next (w : Word) (s : State) : ∃ t, acceptCommand w s = .next t := by
  rcases acceptCommand_spec w s with ⟨i, -, runs⟩ | ⟨-, raised⟩
  · rcases exec_spec i s with ⟨v, he, -⟩ | ⟨v, he, -⟩ | ⟨k, he, -⟩ | ⟨he, -⟩ | ⟨he, -⟩
    all_goals exact ⟨_, runs.trans he⟩
  · exact ⟨_, raised⟩

/-- What a read at an offset of the window answers: its form is checked before its offset (R44, R45, R139). -/
theorem hostAccess_read_cases {s : State} {addr off : Nat} (window : offsetOf s.cfg addr = some off) (size : Nat) :
    (wholeWord off size = false ∧ hostAccess (.read addr size) s = .fault .misalignedOrNarrow) ∨
    (wholeWord off size = true ∧ regAt off = none ∧ hostAccess (.read addr size) s = .fault .unmappedOrReadonly) ∨
    ∃ r, wholeWord off size = true ∧ regAt off = some r ∧
      hostAccess (.read addr size) s = .next (s.logRead off (readReg r s)) := by
  simp only [hostAccess, window, hostRead]
  cases form : wholeWord off size with
  | false => exact .inl ⟨rfl, rfl⟩
  | true =>
    cases reg : regAt off with
    | none => exact .inr (.inl ⟨rfl, rfl, rfl⟩)
    | some r => exact .inr (.inr ⟨r, rfl, rfl, rfl⟩)

/-- What a write at an offset of the window answers: its form is checked before its offset (R44, R45, R139). -/
theorem hostAccess_write_cases {s : State} {addr off : Nat} (window : offsetOf s.cfg addr = some off) (size : Nat)
    (v : Word) :
    (wholeWord off size = false ∧ hostAccess (.write addr size v) s = .fault .misalignedOrNarrow) ∨
    (wholeWord off size = true ∧ (regAt off).any Reg.writable = false ∧
      hostAccess (.write addr size v) s = .fault .unmappedOrReadonly) ∨
    (wholeWord off size = true ∧ (regAt off).any Reg.writable = true ∧
      ∃ t, hostAccess (.write addr size v) s = .next t) := by
  simp only [hostAccess, window]
  cases form : wholeWord off size with
  | false => exact .inl ⟨rfl, rfl⟩
  | true =>
    rcases hostWrite_spec off v s with ⟨at_off, -, answer⟩ | ⟨at_off, -, answer⟩ | ⟨at_off, -, answer⟩ |
      ⟨at_off, -, answer⟩ | ⟨not_cmd, not_status, not_threshold, answer⟩
    · obtain ⟨t, accepted⟩ := acceptCommand_next v s
      exact .inr (.inr ⟨rfl, (regAt_any_writable_iff off).2 (.inl at_off), t, answer.trans accepted⟩)
    · exact .inr (.inr ⟨rfl, (regAt_any_writable_iff off).2 (.inr (.inl at_off)), _, answer⟩)
    · exact .inr (.inr ⟨rfl, (regAt_any_writable_iff off).2 (.inr (.inr at_off)), _, answer⟩)
    · exact .inr (.inr ⟨rfl, (regAt_any_writable_iff off).2 at_off, _, answer⟩)
    · refine .inr (.inl ⟨rfl, ?_, answer⟩)
      rw [← Bool.not_eq_true, regAt_any_writable_iff]
      simp [not_cmd, not_status, not_threshold]

theorem hostAccess_of_offsetOf_eq_none {s : State} {addr : Nat} (outside : offsetOf s.cfg addr = none) (size : Nat)
    (v : Word) : hostAccess (.read addr size) s = .next s ∧ hostAccess (.write addr size v) s = .next s := by
  simp [hostAccess, outside]

/-- R134: an access is legal and answers a next state, or it is not and faults; nothing is refused. -/
theorem hostAccess_legal_cases (a : Access) (s : State) :
    (a.legal s.cfg = true ∧ ∃ t, hostAccess a s = .next t) ∨
    (a.legal s.cfg = false ∧ ∃ e, hostAccess a s = .fault e) := by
  cases a with
  | read addr size =>
    cases window : offsetOf s.cfg addr with
    | none =>
      exact .inl ⟨by simp [Access.legal, window], s, (hostAccess_of_offsetOf_eq_none window size 0).1⟩
    | some off =>
      rcases hostAccess_read_cases window size with ⟨form, answer⟩ | ⟨form, reg, answer⟩ | ⟨r, form, reg, answer⟩
      · exact .inr ⟨by simp [Access.legal, window, form], _, answer⟩
      · exact .inr ⟨by simp [Access.legal, window, reg], _, answer⟩
      · exact .inl ⟨by simp [Access.legal, window, form, reg], _, answer⟩
  | write addr size v =>
    cases window : offsetOf s.cfg addr with
    | none => exact .inl ⟨by simp [Access.legal, window], s, (hostAccess_of_offsetOf_eq_none window size v).2⟩
    | some off =>
      rcases hostAccess_write_cases window size v with ⟨form, answer⟩ | ⟨form, reg, answer⟩ | ⟨form, reg, t, answer⟩
      · exact .inr ⟨by simp [Access.legal, window, form], _, answer⟩
      · exact .inr ⟨by simp only [Access.legal, window, form, reg, Bool.and_false], _, answer⟩
      · exact .inl ⟨by simp only [Access.legal, window, form, reg, Bool.and_true], t, answer⟩

theorem hostAccess_ne_refused (a : Access) (s : State) (e : Refusal) : hostAccess a s ≠ .refused e := by
  rcases hostAccess_legal_cases a s with ⟨-, t, answer⟩ | ⟨-, e', answer⟩ <;> simp [answer]

section
variable {s : State} {addr off : Nat} (window : offsetOf s.cfg addr = some off) (size : Nat) (v : Word)
include window

theorem hostAccess_read_eq_misaligned_iff :
    hostAccess (.read addr size) s = .fault .misalignedOrNarrow ↔ wholeWord off size = false := by
  rcases hostAccess_read_cases window size with ⟨form, answer⟩ | ⟨form, -, answer⟩ | ⟨r, form, -, answer⟩ <;>
    simp [form, answer]

theorem hostAccess_read_eq_unmapped_iff :
    hostAccess (.read addr size) s = .fault .unmappedOrReadonly ↔ wholeWord off size = true ∧ regAt off = none := by
  rcases hostAccess_read_cases window size with ⟨form, answer⟩ | ⟨form, reg, answer⟩ | ⟨r, form, reg, answer⟩
  · simp [form, answer]
  · simp [form, reg, answer]
  · simp [form, reg, answer]

theorem hostAccess_write_eq_misaligned_iff :
    hostAccess (.write addr size v) s = .fault .misalignedOrNarrow ↔ wholeWord off size = false := by
  rcases hostAccess_write_cases window size v with ⟨form, answer⟩ | ⟨form, -, answer⟩ | ⟨form, -, t, answer⟩ <;>
    simp [form, answer]

theorem hostAccess_write_eq_readonly_iff :
    hostAccess (.write addr size v) s = .fault .unmappedOrReadonly ↔
      wholeWord off size = true ∧ (regAt off).any Reg.writable = false := by
  rcases hostAccess_write_cases window size v with ⟨form, answer⟩ | ⟨form, reg, answer⟩ | ⟨form, reg, t, answer⟩
  · simp [form, answer]
  · simp only [form, reg, answer, and_self]
  · simp only [form, reg, answer, reduceCtorEq, Bool.true_eq_false, and_false]

end

/-- Settles O24: at an offset of the window the form decides first and the register after it (`hostAccess_read_cases`,
`hostAccess_write_cases`); which form and which registers these are is `wholeWord_iff`, `regAt_eq_none_iff` and
`regAt_any_writable_iff`. -/
theorem hostFaultsExactly : Obligations.HostFaultsExactly := by
  unfold Obligations.HostFaultsExactly
  intro s off size v inside
  have window : offsetOf s.cfg (s.cfg.baseAddr + off) = some off := offsetOf_base inside
  have misaligned : wholeWord off size = false ↔ size ≠ 4 ∨ off % 4 ≠ 0 := by
    rw [← Bool.not_eq_true, wholeWord_iff, not_and_or]
  have readonly : (regAt off).any Reg.writable = false ↔ off ≠ 0x00 ∧ off ≠ 0x04 ∧ off ≠ 0x10 := by
    rw [← Bool.not_eq_true, regAt_any_writable_iff, not_or, not_or]
  refine ⟨(hostAccess_read_eq_misaligned_iff window size).trans misaligned,
    (hostAccess_read_eq_unmapped_iff window size).trans ?unmapped,
    (hostAccess_write_eq_misaligned_iff window size v).trans misaligned,
    (hostAccess_write_eq_readonly_iff window size v).trans ?readonly,
    hostAccess_ne_refused _ s, hostAccess_ne_refused _ s⟩
  case unmapped =>
    rw [wholeWord_iff, and_assoc]
    exact and_congr_right fun _ => and_congr_right fun aligned => regAt_eq_none_iff inside aligned
  case readonly => rw [wholeWord_iff, and_assoc, readonly]

/-! ### A step -/

theorem hostTurn_stops_cases (s : State) :
    (∃ t, hostTurn s = .next t) ∨
    ∃ e a ops, hostTurn s = .fault e ∧ s.program = .access a :: ops ∧ a.legal s.cfg = false := by
  unfold hostTurn
  split
  · exact .inl ⟨s, rfl⟩
  · next a ops program =>
    rcases hostAccess_legal_cases a { s with program := ops } with ⟨-, t, answer⟩ | ⟨illegal, e, answer⟩
    · exact .inl ⟨t, answer⟩
    · exact .inr ⟨e, a, ops, answer, program, illegal⟩
  · next ops program => exact .inl ⟨_, rfl⟩

/-- R134, R140, R141: a step answers a next state, or it faults at an illegal access of the host. -/
theorem step_stops_cases (s : State) :
    (∃ t, step s = .next t) ∨
    ∃ e a ops, step s = .fault e ∧ (nextTurn s).1 = .host ∧ s.program = .access a :: ops ∧ a.legal s.cfg = false := by
  cases turn : (nextTurn s).1 with
  | host =>
    rw [step_of_host turn]
    rcases hostTurn_stops_cases { s with sched := s.sched.tail } with next | ⟨e, a, ops, answer, program, illegal⟩
    · exact .inl next
    · exact .inr ⟨e, a, ops, answer, rfl, program, illegal⟩
  | engine | peer | answer | tick | reset => exact .inl ⟨_, by rw [step, turn]; rfl⟩

/-- Settles O55: a step that does not answer a next state faults at an illegal access (`step_stops_cases`). -/
theorem onlyIllegalAccessesStop : Obligations.OnlyIllegalAccessesStop := by
  unfold Obligations.OnlyIllegalAccessesStop
  constructor
  · intro s e refused
    rcases step_stops_cases s with ⟨t, answer⟩ | ⟨e', a, ops, answer, -⟩
    · cases refused.symm.trans answer
    · cases refused.symm.trans answer
  · intro s e faulted
    rcases step_stops_cases s with ⟨t, answer⟩ | ⟨e', a, ops, -, host, program, illegal⟩
    · cases faulted.symm.trans answer
    · exact ⟨host, a, ops, program, illegal⟩

/-! ### What a command and a step leave of the ports and the host's lists -/

/-- A command sends on the port of the block's mode only, and touches no other port, input or list of the host (R33). -/
theorem exec_ports {i : Instr} {s t : State} (h : exec i s = .next t) :
    ∃ bs txs, t.tx = s.tx ++ bs ∧ t.busLog = s.busLog ++ txs ∧ (s.cfg.mode = .serial → txs = []) ∧
      (s.cfg.mode = .bus → bs = []) ∧ t.rx = s.rx ∧ t.now = s.now ∧ t.draws = s.draws ∧ t.program = s.program ∧
      t.hostReads = s.hostReads := by
  rcases exec_spec i s with ⟨v, he, -⟩ | ⟨v, he, -⟩ | ⟨k, he, -⟩ | ⟨he, -⟩ | ⟨he, -⟩
  case inr.inr.inl =>
    cases he.symm.trans h
    obtain ⟨bs, txs, sent, serial, bus⟩ := send_spec k s
    rw [sent]
    exact ⟨bs, txs, rfl, rfl, serial, bus, rfl, rfl, rfl, rfl, rfl⟩
  all_goals
    cases he.symm.trans h
    exact ⟨[], [], (List.append_nil _).symm, (List.append_nil _).symm, fun _ => rfl, fun _ => rfl, rfl, rfl, rfl, rfl,
      rfl⟩

theorem engineTurn_program (s : State) : (engineTurn s).program = s.program := by
  rcases engineTurn_frame s with ⟨r, -, commit⟩ | ⟨e, n, bs, txs, as, d, moved⟩
  · rw [commit]
    cases r <;> rfl
  · rw [moved]

/-- The host's program only runs down. -/
theorem mem_program_of_step {s t : State} (h : step s = .next t) {op : HostOp} (mem : op ∈ t.program) :
    op ∈ s.program := by
  rcases step_cases h with ⟨-, rfl⟩ | ⟨-, rfl⟩ | ⟨-, i, ops, -, -, sub, runs⟩ | ⟨-, il, ov, th, ops, rs, -, sub, rfl⟩ |
    ⟨bs, -, rfl⟩ | ⟨bs, -, rfl⟩ | ⟨d, -, rfl⟩
  · rwa [engineTurn_program] at mem
  · exact mem
  · obtain ⟨-, -, -, -, -, -, -, -, -, program, -⟩ := exec_ports runs
    rw [program] at mem
    exact sub op mem
  · exact sub op mem
  · exact mem
  · exact mem
  · exact mem

/-- Settles O54: a step stops only at an illegal access (`step_stops_cases`), and what remains of the host's program was
there before (`mem_program_of_step`), under the same parameters (`step_cfg`). -/
theorem legalHostNeverFaults : Obligations.LegalHostNeverFaults := by
  unfold Obligations.LegalHostNeverFaults
  intro s safe
  rcases step_stops_cases s with ⟨t, answer⟩ | ⟨e, a, ops, -, -, program, illegal⟩
  · refine ⟨t, answer, fun op mem => ?_⟩
    rw [step_cfg answer]
    exact safe op (mem_program_of_step answer mem)
  · have legal : a.legal s.cfg = true := safe (.access a) (by simp [program])
    exact absurd legal (by simp [illegal])

end Sys2Proof.Machine
end

section
/-! What every step keeps, by the agent that takes it (`step_cases`): the streams and the clock (R31, R40 to R42), the
ports of the mode (R34), the phases of a READ (R114), and who writes which register (R15 to R26, R47, R119). -/

namespace Sys2Proof.Machine

/-! ### Streams and the clock -/

theorem commitRead_ports (r : ReadEnd) (s : State) :
    (commitRead r s).tx = s.tx ∧ (commitRead r s).busLog = s.busLog ∧ (commitRead r s).rx = s.rx ∧
      (commitRead r s).hostReads = s.hostReads ∧ (commitRead r s).now = s.now ∧ (commitRead r s).draws = s.draws := by
  cases r <;> exact ⟨rfl, rfl, rfl, rfl, rfl, rfl⟩

/-- Settles O57: the engine's frame, the commands' and the host's each extend the streams at their end; the queue gains
bytes from the peer only, and the clock is its own turn's. -/
theorem streamsOnlyGrow : Obligations.StreamsOnlyGrow := by
  unfold Obligations.StreamsOnlyGrow
  intro s t h
  have unchanged (l : List Byte) : l = l.drop 0 ++ [] := (List.append_nil l).symm
  rcases step_cases h with ⟨-, rfl⟩ | ⟨-, rfl⟩ | ⟨-, i, ops, -, -, -, runs⟩ | ⟨-, il, ov, th, ops, rs, -, -, rfl⟩ |
    ⟨bs, turn, rfl⟩ | ⟨bs, -, rfl⟩ | ⟨d, turn, rfl⟩
  · rcases engineTurn_frame { s with sched := s.sched.tail } with
      ⟨r, -, commit⟩ | ⟨e, n, bs, txs, as, d, moved⟩
    · obtain ⟨tx, busLog, rx, reads, now, -⟩ := commitRead_ports r { s with sched := s.sched.tail }
      rw [commit, tx, busLog, rx, reads, now]
      exact ⟨⟨[], by simp⟩, ⟨[], by simp⟩, ⟨[], by simp⟩, ⟨0, [], unchanged _, fun _ => rfl⟩, .inl rfl⟩
    · rw [moved]
      exact ⟨⟨bs, rfl⟩, ⟨txs, rfl⟩, ⟨[], by simp⟩, ⟨n, [], by simp, fun _ => rfl⟩, .inl rfl⟩
  · exact ⟨⟨[], by simp⟩, ⟨[], by simp⟩, ⟨[], by simp⟩, ⟨0, [], unchanged _, fun _ => rfl⟩, .inl rfl⟩
  · obtain ⟨bs, txs, tx, busLog, -, -, rx, now, -, -, reads⟩ := exec_ports runs
    rw [tx, busLog, rx, now, reads]
    exact ⟨⟨bs, rfl⟩, ⟨txs, rfl⟩, ⟨[], by simp⟩, ⟨0, [], unchanged _, fun _ => rfl⟩, .inl rfl⟩
  · exact ⟨⟨[], by simp⟩, ⟨[], by simp⟩, ⟨rs, rfl⟩, ⟨0, [], unchanged _, fun _ => rfl⟩, .inl rfl⟩
  · exact ⟨⟨[], by simp⟩, ⟨[], by simp⟩, ⟨[], by simp⟩, ⟨0, bs, rfl, fun other => absurd turn other⟩, .inl rfl⟩
  · exact ⟨⟨[], by simp⟩, ⟨[], by simp⟩, ⟨[], by simp⟩, ⟨0, [], unchanged _, fun _ => rfl⟩, .inl rfl⟩
  · exact ⟨⟨[], by simp⟩, ⟨[], by simp⟩, ⟨[], by simp⟩, ⟨0, [], unchanged _, fun _ => rfl⟩, .inr ⟨d, turn, rfl⟩⟩

/-! ### The ports of the mode -/

@[simp] theorem afterDecode_busLog (r : DecodeNext) (s : State) : (afterDecode r s).busLog = s.busLog := by
  obtain ⟨e, moved⟩ := afterDecode_eq r s
  simp [moved]

@[simp] theorem afterDecode_draws (r : DecodeNext) (s : State) : (afterDecode r s).draws = s.draws := by
  obtain ⟨e, moved⟩ := afterDecode_eq r s
  simp [moved]

@[simp] theorem afterDecode_tx (r : DecodeNext) (s : State) : (afterDecode r s).tx = s.tx := by
  obtain ⟨e, moved⟩ := afterDecode_eq r s
  simp [moved]

/-- R34: on the serial link the READ stands at no bus transaction, and its commands are frames. -/
theorem engineTurn_of_serial {s : State} (mode : s.cfg.mode = .serial)
    (place : engineOk s.cfg.mode s.rx.length s.engine) :
    (engineTurn s).busLog = s.busLog ∧ (engineTurn s).draws = s.draws := by
  rw [mode] at place
  rcases engineTurn_cases s with hold | ⟨-, look⟩ | ⟨d, b, q, -, -, -, pop⟩ | ⟨at_ready, -⟩ | ⟨at_data, -⟩ |
    ⟨k, -, discard⟩ | ⟨g, k, -, command⟩ | ⟨g, k, t0, -, -, waited⟩ | ⟨r, -, commit⟩
  · simp [hold]
  · simp [look]
  · simp [pop]
  · rw [at_ready] at place
    cases place
  · rw [at_data] at place
    cases place
  · obtain ⟨e, ended⟩ := endFailed_eq k (s.rxDiscard Config.discardMax)
    simp [discard, ended]
  · rw [command, send_serial mode]
    exact ⟨rfl, rfl⟩
  · simp [waited]
  · obtain ⟨-, busLog, -, -, -, draws⟩ := commitRead_ports r s
    rw [commit]
    exact ⟨busLog, draws⟩

/-- R34: on the bus the READ stands at no pop and no discard, and its commands are writes. -/
theorem engineTurn_of_bus {s : State} (mode : s.cfg.mode = .bus)
    (place : engineOk s.cfg.mode s.rx.length s.engine) :
    (engineTurn s).tx = s.tx ∧ (engineTurn s).rx = s.rx := by
  rw [mode] at place
  rcases engineTurn_cases s with hold | ⟨-, look⟩ | ⟨d, b, q, at_pop, pops, -, -⟩ | ⟨-, ready⟩ | ⟨-, data⟩ |
    ⟨k, at_discard, -⟩ | ⟨g, k, -, command⟩ | ⟨g, k, t0, -, -, waited⟩ | ⟨r, -, commit⟩
  · simp [hold]
  · simp [look]
  · rw [at_pop] at place pops
    cases d with
    | header | payload | escape | chk | trailer => cases place.1
    | look | ready | data => cases pops
  · simp [ready, readyTurn]
  · simp [data, dataTurn]
  · rw [at_discard] at place
    cases place.1
  · rw [command, send_bus mode]
    exact ⟨rfl, rfl⟩
  · simp [waited]
  · obtain ⟨tx, -, rx, -⟩ := commitRead_ports r s
    rw [commit]
    exact ⟨tx, rx⟩

/-- Settles O58: the engine uses the ports of its mode because the invariant says where it stands
(`engineTurn_of_serial`, `engineTurn_of_bus`), and a command because `Send(k)` does (`exec_ports`). -/
theorem portsOfTheMode : Obligations.PortsOfTheMode := by
  unfold Obligations.PortsOfTheMode
  intro s t inv h
  have unchanged {l : List Byte} (same : l = s.rx) : ∃ bs, l = s.rx ++ bs := ⟨[], by simp [same]⟩
  rcases step_cases h with ⟨-, rfl⟩ | ⟨-, rfl⟩ | ⟨-, i, ops, -, -, -, runs⟩ | ⟨-, il, ov, th, ops, rs, -, -, rfl⟩ |
    ⟨bs, -, rfl⟩ | ⟨bs, -, rfl⟩ | ⟨d, -, rfl⟩
  · refine ⟨fun serial => engineTurn_of_serial (s := { s with sched := s.sched.tail }) serial inv.engine_ok,
      fun bus => ?_⟩
    obtain ⟨tx, rx⟩ := engineTurn_of_bus (s := { s with sched := s.sched.tail }) bus inv.engine_ok
    exact ⟨tx, unchanged rx⟩
  · exact ⟨fun _ => ⟨rfl, rfl⟩, fun _ => ⟨rfl, unchanged rfl⟩⟩
  · obtain ⟨bs, txs, tx, busLog, serial, bus, rx, -, draws, -, -⟩ := exec_ports runs
    refine ⟨fun mode => ⟨?_, draws⟩, fun mode => ⟨?_, unchanged rx⟩⟩
    · rw [busLog, serial mode, List.append_nil]
    · rw [tx, bus mode, List.append_nil]
  · exact ⟨fun _ => ⟨rfl, rfl⟩, fun _ => ⟨rfl, unchanged rfl⟩⟩
  · exact ⟨fun _ => ⟨rfl, rfl⟩, fun _ => ⟨rfl, bs, rfl⟩⟩
  · exact ⟨fun _ => ⟨rfl, rfl⟩, fun _ => ⟨rfl, unchanged rfl⟩⟩
  · exact ⟨fun _ => ⟨rfl, rfl⟩, fun _ => ⟨rfl, unchanged rfl⟩⟩

/-! ### The phases of a READ -/

theorem phaseRank_eq_zero_iff (p : Phase) : phaseRank p = 0 ↔ p = .idle := by
  cases p <;> simp [phaseRank]

theorem busy_eq_false_iff_phaseRank (s : State) : s.busy = false ↔ phaseRank (phaseOf s.engine) = 0 := by
  rw [busy_eq_false_iff, phaseRank_eq_zero_iff, phaseOf_eq_idle_iff]

/-- A failed decode goes to the recovery or the commit, both behind the discard (R114). -/
theorem two_lt_phaseRank_endFailed (k : FailKind) (s : State) : 2 < phaseRank (phaseOf (endFailed k s).engine) := by
  rcases endFailed_spec k s with ⟨-, ended⟩ | ⟨-, ended⟩ <;> simp [ended, phaseOf, phaseRank]

theorem one_le_phaseRank_afterDecode (r : DecodeNext) (s : State) :
    1 ≤ phaseRank (phaseOf (afterDecode r s).engine) := by
  cases r with
  | goOn d => exact Nat.le_refl 1
  | done p => exact Nat.le_add_left 1 8
  | failed k =>
    have := two_lt_phaseRank_endFailed k s
    rw [afterDecode_failed]
    omega
  | failedDiscard k => exact Nat.le_add_left 1 1

theorem engineTurn_of_idle {s : State} (h : s.engine = .idle) : engineTurn s = s := by
  rw [engineTurn, h]

/-- R114: the engine's turn ends the commit, or moves on in the order of the phases. -/
theorem engineTurn_phase_cases (s : State) :
    (∃ r, s.engine = .commit r) ∨
    phaseRank (phaseOf s.engine) ≤ phaseRank (phaseOf (engineTurn s).engine) := by
  rcases engineTurn_cases s with hold | ⟨at_look, look⟩ | ⟨d, b, q, at_pop, -, -, pop⟩ | ⟨at_ready, ready⟩ |
    ⟨at_data, data⟩ | ⟨k, at_discard, discard⟩ | ⟨g, k, at_recover, command⟩ | ⟨g, k, t0, at_wait, -, waited⟩ |
    ⟨r, at_commit, -⟩
  · exact .inr (by rw [hold])
  · rw [at_look, look]
    exact .inr (one_le_phaseRank_afterDecode _ _)
  · rw [at_pop, pop]
    exact .inr (one_le_phaseRank_afterDecode _ _)
  · rw [at_ready, ready]
    exact .inr (one_le_phaseRank_afterDecode _ _)
  · rw [at_data, data]
    exact .inr (one_le_phaseRank_afterDecode _ _)
  · rw [at_discard, discard]
    exact .inr (Nat.le_of_lt (two_lt_phaseRank_endFailed _ _))
  · rw [at_recover, command, State.setEngine_engine]
    cases g <;> exact .inr (by simp [phaseOf, phaseRank])
  · rw [at_wait, waited, State.setEngine_engine]
    cases g <;> exact .inr (by simp [phaseOf, afterStage, phaseRank])
  · exact .inl ⟨r, at_commit⟩

/-- A command moves the sequencer only if it is READ, and then to the decode (R33, R113). -/
theorem exec_engine {i : Instr} {s t : State} (h : exec i s = .next t) :
    t.engine = s.engine ∨ (i = .read ∧ ∃ d, t.engine = .decode d) := by
  rcases exec_spec i s with ⟨v, he, -⟩ | ⟨v, he, -⟩ | ⟨k, he, -⟩ | ⟨he, rfl⟩ | ⟨he, -⟩
  · cases he.symm.trans h
    exact .inl rfl
  · cases he.symm.trans h
    exact .inl rfl
  · cases he.symm.trans h
    obtain ⟨bs, txs, sent, -⟩ := send_spec k s
    exact .inl (by rw [sent])
  · cases he.symm.trans h
    exact .inr ⟨rfl, _, rfl⟩
  · cases he.symm.trans h
    exact .inl rfl

/-- Who moves the sequencer over a step that is no reset: an accepted READ, from idle, and the engine (R33). -/
theorem step_engine_cases {s t : State} (h : step s = .next t) (no_reset : (nextTurn s).1 ≠ .reset) :
    t.engine = s.engine ∨
    (s.busy = false ∧ acceptedCommand s = some .read ∧ ∃ d, t.engine = .decode d) ∨
    ((nextTurn s).1 = .engine ∧ t = engineTurn { s with sched := s.sched.tail }) := by
  rcases step_cases h with engine | ⟨turn, -⟩ | ⟨-, i, ops, accepted, idle, -, runs⟩ |
    ⟨-, il, ov, th, ops, rs, -, -, rfl⟩ | ⟨bs, -, rfl⟩ | ⟨bs, -, rfl⟩ | ⟨d, -, rfl⟩
  · exact .inr (.inr engine)
  · exact absurd turn no_reset
  · rcases exec_engine runs with kept | ⟨rfl, decode⟩
    · exact .inl kept
    · exact .inr (.inl ⟨idle, accepted, decode⟩)
  · exact .inl rfl
  · exact .inl rfl
  · exact .inl rfl
  · exact .inl rfl

/-- Settles O50: the sequencer is moved by an accepted READ or by the engine (`step_engine_cases`), which is idle while
the block is and moves forward otherwise (`engineTurn_phase_cases`). -/
theorem phasesMoveForward : Obligations.PhasesMoveForward := by
  unfold Obligations.PhasesMoveForward
  intro s t h no_reset
  rcases step_engine_cases h no_reset with kept | ⟨idle, accepted, d, decode⟩ | ⟨-, rfl⟩
  · have same := busy_congr kept
    refine ⟨fun idle busy => ?_, fun _ _ => by rw [kept], fun busy idle => ?_⟩
    · simp [same, idle] at busy
    · simp [same, busy] at idle
  · refine ⟨fun _ _ => ⟨by rw [decode]; rfl, accepted⟩, fun busy => ?_, fun busy => ?_⟩ <;> simp [idle] at busy
  · refine ⟨fun idle busy => ?_, fun _ busy => ?_, fun busy idle => ?_⟩
    · have still := engineTurn_of_idle (s := { s with sched := s.sched.tail }) ((busy_eq_false_iff s).1 idle)
      rw [still] at busy
      exact absurd (idle.symm.trans busy) (by decide)
    · rcases engineTurn_phase_cases { s with sched := s.sched.tail } with ⟨r, at_commit⟩ | forward
      · rw [engineTurn_commit at_commit, busy_eq_true_iff] at busy
        cases r <;> exact absurd rfl busy
      · exact forward
    · rcases engineTurn_phase_cases { s with sched := s.sched.tail } with ⟨r, at_commit⟩ | forward
      · exact (phaseOf_eq_commit_iff _).2 ⟨r, at_commit⟩
      · rw [(busy_eq_false_iff_phaseRank _).1 idle, Nat.le_zero] at forward
        exact absurd (busy.symm.trans ((busy_eq_false_iff_phaseRank s).2 forward)) (by decide)

/-! ### Who writes a register -/

/-- Settles O45: while a READ is in progress no command is accepted, the engine before its commit touches ports only,
and the host's turn touches no register but `OVERRUN` (`step_cases`, `engineTurn_frame`). -/
theorem registersKeptUntilCommit : Obligations.RegistersKeptUntilCommit := by
  unfold Obligations.RegistersKeptUntilCommit
  intro s t busy h no_reset no_commit
  rcases step_cases h with ⟨turn, rfl⟩ | ⟨turn, -⟩ | ⟨-, i, ops, -, idle, -, -⟩ |
    ⟨turn, il, ov, th, ops, rs, kept, -, rfl⟩ | ⟨bs, -, rfl⟩ | ⟨bs, -, rfl⟩ | ⟨d, -, rfl⟩
  · rcases engineTurn_frame { s with sched := s.sched.tail } with ⟨r, at_commit, -⟩ | ⟨e, n, bs, txs, as, d, moved⟩
    · exact absurd ((phaseOf_eq_commit_iff _).2 ⟨r, at_commit⟩) (no_commit turn)
    · rw [moved]
      exact ⟨⟨rfl, rfl, rfl, rfl, rfl, rfl, rfl, rfl, rfl, rfl, rfl, rfl, rfl, rfl⟩, fun _ => rfl⟩
  · exact absurd turn no_reset
  · exact absurd (busy.symm.trans idle) (by decide)
  · obtain ⟨rfl, rfl⟩ := kept busy
    exact ⟨⟨rfl, rfl, rfl, rfl, rfl, rfl, rfl, rfl, rfl, rfl, rfl, rfl, rfl, rfl⟩, fun other => absurd turn other⟩
  all_goals exact ⟨⟨rfl, rfl, rfl, rfl, rfl, rfl, rfl, rfl, rfl, rfl, rfl, rfl, rfl, rfl⟩, fun _ => rfl⟩

theorem recordRead_of_invalid {s : State} (h : s.recValid = false) (i : Fin 10) :
    recordRead i s = Config.recordDraw s.resets i.val := by
  simp [recordRead, h]

/-- Settles O26: no record is valid before the step either, and the number of resets is kept: who writes the one or the
other is a successful commit, which makes a record valid, or a reset (`step_outcome_cases`). -/
theorem unreadRecordIsOneDraw : Obligations.UnreadRecordIsOneDraw := by
  unfold Obligations.UnreadRecordIsOneDraw
  intro s t i h no_reset invalid
  have before : s.recValid = false ∧ t.resets = s.resets := by
    rcases step_outcome_cases h with kept | ⟨r, -, -, rfl⟩ | ⟨-, -, ops, runs⟩ | ⟨turn, -⟩
    · exact ⟨kept.recValid.symm.trans invalid, kept.resets⟩
    · cases r with
      | ok p t1 => cases invalid
      | fail k t2 => exact ⟨invalid, rfl⟩
    · cases (exec_init _).symm.trans runs
      exact ⟨invalid, rfl⟩
    · exact absurd turn no_reset
  obtain ⟨never, resets⟩ := before
  have draw := recordRead_of_invalid never i
  refine ⟨draw, ?_⟩
  rw [readReg, readReg, draw, recordRead_of_invalid invalid, resets]

theorem exec_result {i : Instr} {s t : State} (h : exec i s = .next t) (changed : t.result ≠ s.result) :
    (∃ a b, i = .crc8 a b) ∨ (∃ a b c, i = .crcchk a b c) ∨ (∃ c, i = .stuff c) ∨ (∃ c, i = .unesc c) := by
  rcases exec_spec i s with ⟨v, -, writer⟩ | ⟨v, he, -⟩ | ⟨k, he, -⟩ | ⟨he, -⟩ | ⟨he, -⟩
  · exact writer
  · cases he.symm.trans h
    exact absurd rfl changed
  · cases he.symm.trans h
    obtain ⟨bs, txs, sent, -⟩ := send_spec k s
    rw [sent] at changed
    exact absurd rfl changed
  all_goals
    cases he.symm.trans h
    exact absurd rfl changed

theorem exec_acc {i : Instr} {s t : State} (h : exec i s = .next t) (changed : t.acc ≠ s.acc) :
    i = .sumclr ∨ ∃ c, i = .sumadd c := by
  rcases exec_spec i s with ⟨v, he, -⟩ | ⟨v, -, writer⟩ | ⟨k, he, -⟩ | ⟨he, -⟩ | ⟨he, -⟩
  · cases he.symm.trans h
    exact absurd rfl changed
  · exact writer
  · cases he.symm.trans h
    obtain ⟨bs, txs, sent, -⟩ := send_spec k s
    rw [sent] at changed
    exact absurd rfl changed
  all_goals
    cases he.symm.trans h
    exact absurd rfl changed

/-- R15, R16, R33: over a step that is no reset `RESULT` and `SUMACC` are a command's to write. -/
theorem step_result_acc_cases {s t : State} (h : step s = .next t) (no_reset : (nextTurn s).1 ≠ .reset) :
    (t.result = s.result ∧ t.acc = s.acc) ∨
    ∃ i ops, acceptedCommand s = some i ∧ exec i { s with sched := s.sched.tail, program := ops } = .next t := by
  rcases step_cases h with ⟨-, rfl⟩ | ⟨turn, -⟩ | ⟨-, i, ops, accepted, -, -, runs⟩ |
    ⟨-, il, ov, th, ops, rs, -, -, rfl⟩ | ⟨bs, -, rfl⟩ | ⟨bs, -, rfl⟩ | ⟨d, -, rfl⟩
  · rcases engineTurn_frame { s with sched := s.sched.tail } with ⟨r, -, commit⟩ | ⟨e, n, bs, txs, as, d, moved⟩
    · rw [commit]
      cases r <;> exact .inl ⟨rfl, rfl⟩
    · rw [moved]
      exact .inl ⟨rfl, rfl⟩
  · exact absurd turn no_reset
  · exact .inr ⟨i, ops, accepted, runs⟩
  all_goals exact .inl ⟨rfl, rfl⟩

/-- Settles O59: a change is a command's (`step_result_acc_cases`), and of the commands only the listed ones write the
register (`exec_result`, `exec_acc`). -/
theorem writersOfResultAndSumacc : Obligations.WritersOfResultAndSumacc := by
  unfold Obligations.WritersOfResultAndSumacc
  intro s t h no_reset
  rcases step_result_acc_cases h no_reset with ⟨result, acc⟩ | ⟨i, ops, accepted, runs⟩
  · exact ⟨fun changed => absurd result changed, fun changed => absurd acc changed⟩
  · exact ⟨fun changed => ⟨i, accepted, exec_result runs changed⟩, fun changed => ⟨i, accepted, exec_acc runs changed⟩⟩

/-- The good-read counter saturates instead of wrapping (R22). -/
theorem goodCnt_le_commitRead (r : ReadEnd) (s : State) : s.goodCnt.toNat ≤ (commitRead r s).goodCnt.toNat := by
  cases r with
  | ok p t1 =>
    have := s.goodCnt.isLt
    show _ ≤ (sat32 (s.goodCnt.toNat + 1)).toNat
    rw [sat32_toNat]
    omega
  | fail k t2 => exact Nat.le_refl _

/-- Settles O60: the link-health registers are kept but at a commit, by INIT and by a reset (`step_outcome_cases`), and
a commit counts a good read up or leaves the count. -/
theorem writersOfLinkHealth : Obligations.WritersOfLinkHealth := by
  unfold Obligations.WritersOfLinkHealth
  intro s t h no_reset no_init
  rcases step_outcome_cases h with kept | ⟨r, at_commit, -, rfl⟩ | ⟨accepted, -⟩ | ⟨turn, -⟩
  · exact ⟨Nat.le_of_eq (congrArg _ kept.goodCnt.symm), fun _ =>
      ⟨kept.goodCnt, kept.badCnt, kept.lastGoodTs, kept.linkState, kept.isHealthy, kept.record⟩⟩
  · exact ⟨goodCnt_le_commitRead r { s with sched := s.sched.tail },
      fun other => absurd ((phaseOf_eq_commit_iff _).2 ⟨r, at_commit⟩) other⟩
  · exact absurd accepted no_init
  · exact absurd turn no_reset

end Sys2Proof.Machine
end

section
/-! The checksum family, continued (40_checksum.md): the CRC as bit-serial division (R73), its linearity (R80 items 4
and 5), the laws of the frame checksum (R80 items 1 to 3), and what they say of frames and answers (R63, R69). -/

namespace Sys2Proof.Machine

/-! ### The CRC is linear but for its start value -/

theorem crcShift_eq_xor (x : Byte) : crcShift x = (x <<< 1) ^^^ (if x.getLsbD 7 then Config.crcPoly else 0) := by
  unfold crcShift
  split
  · rfl
  · exact BitVec.xor_zero.symm

theorem ite_xor_eq (a b : Bool) (p : Byte) :
    (if a ^^ b then p else 0) = (if a then p else 0) ^^^ (if b then p else 0) := by
  cases a <;> cases b <;> simp

theorem crcShift_xor (x y : Byte) : crcShift (x ^^^ y) = crcShift x ^^^ crcShift y := by
  rw [crcShift_eq_xor, crcShift_eq_xor x, crcShift_eq_xor y, BitVec.getLsbD_xor, BitVec.shiftLeft_xor_distrib,
    ite_xor_eq]
  ac_rfl

theorem repeat_crcShift_xor (n : Nat) (x y : Byte) :
    Nat.repeat crcShift n (x ^^^ y) = Nat.repeat crcShift n x ^^^ Nat.repeat crcShift n y := by
  induction n with
  | zero => rfl
  | succ n ih =>
    show crcShift (Nat.repeat crcShift n (x ^^^ y)) = _
    rw [ih, crcShift_xor]
    rfl

theorem crcByte_xor (acc acc' b b' : Byte) : crcByte (acc ^^^ acc') (b ^^^ b') = crcByte acc b ^^^ crcByte acc' b' := by
  unfold crcByte
  rw [← repeat_crcShift_xor]
  congr 1
  ac_rfl

/-- R80 item 4: the CRC is linear with the start value 0, which is what the CRC of the zero word takes away. -/
theorem crc8_xor (a b c d : Byte) : crc8 (a ^^^ c) (b ^^^ d) = crc8 a b ^^^ crc8 c d ^^^ crc8 0 0 := by
  unfold crc8
  rw [← crcByte_xor, ← crcByte_xor, ← crcByte_xor, ← crcByte_xor]
  simp

/-- Settles O13: linearity (`crc8_xor`) and the CRC of the zero word. -/
theorem crcIsAffine : Obligations.CrcIsAffine := by
  unfold Obligations.CrcIsAffine
  intro a b c d
  rw [crc8_xor, show crc8 0 0 = 0x81 from crc8_00_00]

/-- The CRC of the word with one bit set, beside that of the zero word, is the bit's syndrome (R80 item 5). -/
theorem crc8_one_shiftLeft {i : Nat} (h : i < 16) :
    crc8 ((1#16 <<< i).extractLsb' 8 8) ((1#16 <<< i).extractLsb' 0 8) ^^^ crc8 0 0 = syndromes.getD i 0 ∧
      syndromes.getD i 0 ≠ 0 := by
  revert i
  decide +kernel

/-- Settles O14: the flip is an XOR, which the CRC passes on (`crc8_xor`), so what it does is the same for every word:
the syndrome of the bit (`crc8_one_shiftLeft`). -/
theorem crcBitFlipSyndromes : Obligations.CrcBitFlipSyndromes := by
  unfold Obligations.CrcBitFlipSyndromes
  intro x i h
  obtain ⟨syndrome, nonzero⟩ := crc8_one_shiftLeft h
  refine ⟨?_, nonzero⟩
  rw [BitVec.extractLsb'_xor, BitVec.extractLsb'_xor, crc8_xor, BitVec.xor_assoc, syndrome]

/-! ### The CRC bit by bit -/

/-- One iteration of R73 on an accumulator with message bits XORed in takes in the first of them; the others move up. -/
theorem crcShift_xor_eq_crcBit (acc m : Byte) : crcShift (acc ^^^ m) = crcBit acc (m.getLsbD 7) ^^^ (m <<< 1) := by
  unfold crcShift crcBit
  rw [BitVec.getLsbD_xor, BitVec.shiftLeft_xor_distrib, Config.crcPoly]
  split
  · ac_rfl
  · rfl

/-- After `n` iterations the first `n` message bits are taken in, and the others stand `n` places higher. -/
theorem repeat_crcShift_xor_eq_foldl {n : Nat} (h : n ≤ 8) (acc m : Byte) :
    Nat.repeat crcShift n (acc ^^^ m) = ((msbFirst m).take n).foldl crcBit acc ^^^ (m <<< n) := by
  induction n with
  | zero => simp [Nat.repeat]
  | succ n ih =>
    have next : (msbFirst m).take (n + 1) = (msbFirst m).take n ++ [(m <<< n).getLsbD 7] := by
      have bit : ∀ n < 8, (msbFirst m)[n]? = some ((m <<< n).getLsbD 7) := by
        intro n h
        interval_cases n <;> simp [msbFirst]
      rw [List.take_add_one, bit n h]
      rfl
    show crcShift (Nat.repeat crcShift n (acc ^^^ m)) = _
    rw [ih (by omega), crcShift_xor_eq_crcBit, next, List.foldl_append, BitVec.shiftLeft_add]
    rfl

/-- R73: folding a byte in takes in its bits, most significant first. -/
theorem crcByte_eq_foldl (acc b : Byte) : crcByte acc b = (msbFirst b).foldl crcBit acc := by
  have gone : b <<< 8 = 0 := BitVec.shiftLeft_eq_zero (Nat.le_refl 8)
  rw [crcByte, repeat_crcShift_xor_eq_foldl (Nat.le_refl 8), gone]
  simp [msbFirst]

/-- Settles O12: each byte is its bits (`crcByte_eq_foldl`), the second on the accumulator of the first. -/
theorem crcIsBitSerialDivision : Obligations.CrcIsBitSerialDivision := by
  unfold Obligations.CrcIsBitSerialDivision
  intro b0 b1
  rw [crc8, crcByte_eq_foldl, crcByte_eq_foldl, List.foldl_append]
  rfl

/-! ### The frame checksum -/

theorem frameChecksum_inj {p q : List Byte} : frameChecksum p = frameChecksum q ↔ byteSum p = byteSum q :=
  BitVec.not_inj

theorem byteSum_perm {p q : List Byte} (h : p.Perm q) : byteSum p = byteSum q := by
  rw [← ofNat_natSum, ← ofNat_natSum, natSum, natSum, (h.map _).sum_eq]

theorem byteSum_replicate_zero (n : Nat) : byteSum (List.replicate n 0) = 0 := by
  induction n with
  | zero => rfl
  | succ n ih =>
    rw [List.replicate_succ, byteSum_cons, ih]
    rfl

/-- What replacing a byte does to the sum: the byte it replaces goes, the new one comes. -/
theorem byteSum_set {p : List Byte} {i : Nat} (h : i < p.length) (x : Byte) :
    byteSum (p.set i x) + byteAt p i = byteSum p + x := by
  induction p generalizing i with
  | nil => cases h
  | cons y p ih =>
    cases i with
    | zero =>
      show byteSum (x :: p) + y = _
      rw [byteSum_cons, byteSum_cons]
      ac_rfl
    | succ i =>
      have rest := ih (Nat.lt_of_succ_lt_succ h)
      show byteSum (y :: p.set i x) + byteAt p i = _
      rw [byteSum_cons, byteSum_cons, BitVec.add_assoc, rest, BitVec.add_assoc]

/-- Settles O16: the laws of the byte sum, which the complement keeps (`frameChecksum_inj`). -/
theorem frameChecksumLaws : Obligations.FrameChecksumLaws := by
  unfold Obligations.FrameChecksumLaws
  refine ⟨byteSum_toNat, fun p q perm => frameChecksum_inj.2 (byteSum_perm perm),
    fun p => frameChecksum_inj.2 ?appended, fun n => ?zeros, fun p i x inside changed same => changed ?one_byte,
    fun x y p => frameChecksum_inj.2 ?cancel⟩
  case appended =>
    rw [byteSum_append]
    exact BitVec.add_zero _
  case zeros =>
    rw [frameChecksum, byteSum_replicate_zero]
    rfl
  case cancel =>
    rw [byteSum_cons, byteSum_cons, byteSum_cons, byteSum_cons]
    ring
  case one_byte =>
    have sums := byteSum_set inside x
    rw [frameChecksum_inj.1 same] at sums
    exact (BitVec.add_right_inj _).1 sums.symm

/-! ### Frames and answers -/

theorem ofNat_length_toNat {p : List Byte} (h : p.length ≤ 255) : (BitVec.ofNat 8 p.length).toNat = p.length := by
  rw [BitVec.toNat_ofNat, Nat.mod_eq_of_lt (by omega)]

/-- R63, R76: the checksum of a command frame as a number. -/
theorem frameChecksum_frameBody_toNat (cmd : Byte) {data : List Byte} (h : data.length ≤ 255) :
    (frameChecksum (frameBody cmd data)).toNat = 255 - (0x00 + cmd.toNat + data.length + natSum data) % 256 := by
  rw [frameChecksumIsInvertedSum.1]
  simp only [frameBody, List.cons_append, List.nil_append, natSum_cons, ofNat_length_toNat h, Config.serAddr]
  congr 2
  simp
  omega

/-- Settles O36: the frame is its definition written out, its length byte is exact up to 255
(`ofNat_length_toNat`), and its checksum is the inverted sum (`frameChecksum_frameBody_toNat`). -/
theorem commandFrameForm : Obligations.CommandFrameForm := by
  unfold Obligations.CommandFrameForm
  intro cmd data h
  refine ⟨BitVec.ofNat 8 data.length, frameChecksum (frameBody cmd data), rfl, ofNat_length_toNat h, ?_⟩
  rw [frameChecksum_frameBody_toNat cmd h, ofNat_length_toNat h]

/-- Settles O38: the check fixes the first two bytes, and the third as their CRC (R69). -/
theorem onlyOneReadyAnswer : Obligations.OnlyOneReadyAnswer := by
  unfold Obligations.OnlyOneReadyAnswer
  intro r
  constructor
  · intro passes
    unfold busReady at passes
    split at passes
    · next r0 r1 r2 =>
      simp only [Bool.and_eq_true, beq_iff_eq] at passes
      obtain ⟨⟨rfl, rfl⟩, rfl⟩ := passes
      rw [crc8_00_01]
    · cases passes
  · rintro rfl
    show (crc8 0x00 0x01 == 0xB0 && (0x00 : Byte) == 0x00 && (0x01 : Byte) == 0x01) = true
    rw [crc8_00_01]
    rfl

end Sys2Proof.Machine
end

section
/-! What a host reads and writes, and what the commands that only send do: the words at `STATUS`, `HEALTH` and `SUMACC`
(R16, R17, R19), single accesses (R46, R47, R72), a reset as a host sees it (R150, R151), and PWRON, PWROFF, CLEAN,
REQDATA and READ (R85 to R89, R100, R113). -/

namespace Sys2Proof.Machine

/-! ### The words of the fields -/

theorem getLsbD_append_ofBool_zero {n : Nat} (x : BitVec n) (b : Bool) : (x ++ BitVec.ofBool b).getLsbD 0 = b := by
  rw [BitVec.getLsbD_append, if_pos Nat.one_pos]
  cases b <;> rfl

theorem getLsbD_append_of_le {n m i : Nat} (x : BitVec n) (y : BitVec m) (h : m ≤ i) :
    (x ++ y).getLsbD i = x.getLsbD (i - m) := by
  rw [BitVec.getLsbD_append, if_neg (Nat.not_lt.2 h)]

theorem statusWord_busy (s : State) : (statusWord s).getLsbD 0 = s.busy :=
  getLsbD_append_ofBool_zero _ _

/-- Settles O19: each field of the word is a part of the concatenation that builds it. -/
theorem statusWordFields : Obligations.StatusWordFields := by
  unfold Obligations.StatusWordFields
  refine ⟨fun s => ⟨?busy, ?illegal, ?overrun, ?recValid, ?low, ?code, ?recovered, ?high⟩,
    rfl, rfl, rfl, rfl, rfl, rfl, rfl, rfl, rfl, rfl⟩
  case busy => rw [statusWord_busy, busy_eq_true_iff]
  case illegal =>
    unfold statusWord
    rw [getLsbD_append_of_le _ _ (by decide)]
    exact getLsbD_append_ofBool_zero _ _
  case overrun =>
    unfold statusWord
    iterate 2 rw [getLsbD_append_of_le _ _ (by decide)]
    exact getLsbD_append_ofBool_zero _ _
  case recValid =>
    unfold statusWord
    iterate 3 rw [getLsbD_append_of_le _ _ (by decide)]
    exact getLsbD_append_ofBool_zero _ _
  case recovered =>
    unfold statusWord
    iterate 6 rw [getLsbD_append_of_le _ _ (by decide)]
    exact getLsbD_append_ofBool_zero _ _
  case low =>
    unfold statusWord
    iterate 4 rw [BitVec.extractLsb'_append_eq_of_le (by decide)]
    exact BitVec.extractLsb'_append_eq_right
  case code =>
    unfold statusWord
    iterate 5 rw [BitVec.extractLsb'_append_eq_of_le (by decide)]
    exact BitVec.extractLsb'_append_eq_right
  case high =>
    unfold statusWord
    iterate 6 rw [BitVec.extractLsb'_append_eq_of_le (by decide)]
    exact BitVec.extractLsb'_append_eq_left

theorem healthWord_link (s : State) : (healthWord s).extractLsb' 1 2 = linkCode s.linkState := by
  rw [healthWord, BitVec.extractLsb'_append_eq_of_le (by decide)]
  exact BitVec.extractLsb'_append_eq_right

/-- Settles O20: each field of the two words is a part of the concatenation that builds it. -/
theorem sumaccAndHealthWords : Obligations.SumaccAndHealthWords := by
  unfold Obligations.SumaccAndHealthWords
  intro s
  refine ⟨BitVec.extractLsb'_append_eq_right, sumaccWord_fcs s, ?acc_high, ?healthy, fun link => ?_, fun link => ?_,
    fun link => ?_, ?health_high⟩
  case acc_high =>
    rw [sumaccWord, BitVec.extractLsb'_append_eq_of_le (by decide)]
    exact BitVec.extractLsb'_append_eq_left
  case healthy => exact getLsbD_append_ofBool_zero _ _
  case health_high =>
    rw [healthWord, BitVec.extractLsb'_append_eq_of_le (by decide)]
    exact BitVec.extractLsb'_append_eq_left
  all_goals rw [healthWord_link, link]; rfl

/-! ### One access of the host -/

/-- Every register stands at a whole word of the window (R13). -/
theorem regAt_window {off : Nat} {r : Reg} (h : regAt off = some r) : off < 0x80 ∧ off % 4 = 0 := by
  have mem := (registerMap off r).1 h
  simp only [List.mem_cons, List.not_mem_nil, or_false, Prod.mk.injEq] at mem
  omega

theorem hostAccess_read_reg {s : State} {off : Nat} {r : Reg} (h : regAt off = some r) :
    hostAccess (.read (s.cfg.baseAddr + off) 4) s = .next (s.logRead off (readReg r s)) := by
  obtain ⟨window, aligned⟩ := regAt_window h
  simp [hostAccess, offsetOf_base window, wholeWord, aligned, hostRead, h]

/-- Settles O21: the access is one read of the register (`hostAccess_read_reg`), whose value is a case of `readReg`. -/
theorem hostReadsHaveNoSideEffect : Obligations.HostReadsHaveNoSideEffect := by
  unfold Obligations.HostReadsHaveNoSideEffect
  intro s off r reg
  refine ⟨hostAccess_read_reg reg, ?_, ?_, ?_, ?_, ?_, ?_, ?_, ?_, ?_, ?record⟩
  case record =>
    rintro i rfl valid
    simp [readReg, recordRead, valid]
  all_goals
    rintro rfl
    rfl

theorem hostAccess_write_word {s : State} {off : Nat} (window : off < 0x80) (aligned : off % 4 = 0) (v : Word) :
    hostAccess (.write (s.cfg.baseAddr + off) 4 v) s = hostWrite off v s := by
  simp [hostAccess, offsetOf_base window, wholeWord, aligned]

/-- Writing 1 clears a sticky bit, writing 0 leaves it (R17). -/
theorem and_not_eq_ite (b w : Bool) : (b && !w) = if w then false else b := by
  cases w <;> simp

/-- Settles O22: the two writes of `hostWrite` that an idle block takes, beside a command word. -/
theorem hostWritesWhileIdle : Obligations.HostWritesWhileIdle := by
  unfold Obligations.HostWritesWhileIdle
  intro s v idle
  rw [hostAccess_write_word (by decide) (by decide), hostAccess_write_word (by decide) (by decide)]
  refine ⟨?status, ?threshold⟩
  case status =>
    simp only [hostWrite, regAt, idle, State.clearSticky, and_not_eq_ite]
    rfl
  case threshold =>
    simp only [hostWrite, regAt, idle]
    rfl

/-- Settles O23: of the cases of a write (`hostWrite_spec`) only the dropped one is left. -/
theorem busyWritesAreDropped : Obligations.BusyWritesAreDropped := by
  unfold Obligations.BusyWritesAreDropped
  intro s off v busy writable
  rw [hostAccess_write_word (by omega) (by omega)]
  rcases hostWrite_spec off v s with ⟨-, idle, -⟩ | ⟨-, idle, -⟩ | ⟨-, idle, -⟩ | ⟨-, -, dropped⟩ |
    ⟨not_cmd, not_status, not_threshold, -⟩
  · exact absurd (busy.symm.trans idle) (by decide)
  · exact absurd (busy.symm.trans idle) (by decide)
  · exact absurd (busy.symm.trans idle) (by decide)
  · exact dropped
  · omega

theorem hostTurn_poll {s : State} {ops : List HostOp} (h : s.program = .poll :: ops) :
    hostTurn s = .next (pollTurn ops s) := by
  rw [hostTurn, h]

theorem pollTurn_eq {s : State} {ops : List HostOp} :
    pollTurn ops s = { s with
      hostReads := s.hostReads ++ [(0x04, statusWord s)]
      program := if s.busy then s.program else ops } := by
  unfold pollTurn
  split <;> rfl

/-- Settles O25: the host's turn is one round of POLL (`pollTurn_eq`), and the bit it goes by is `BUSY`. -/
theorem pollRepeatsWhileBusy : Obligations.PollRepeatsWhileBusy := by
  unfold Obligations.PollRepeatsWhileBusy
  intro s ops host poll
  rw [step_of_host host, hostTurn_poll (s := { s with sched := s.sched.tail }) poll, pollTurn_eq, statusWord_busy]
  rfl

/-! ### A reset as a host sees it -/

section
variable {t : State} {now : Word} (h : ResetValues t now)
include h

theorem ResetValues.statusWord : statusWord t = 0x00000F00 := by
  have idle : t.busy = false := (busy_eq_false_iff t).2 h.engine
  rw [Machine.statusWord, h.recovered, h.lastResult, h.recValid, h.overrun, h.illegal, idle]
  rfl

theorem ResetValues.sumaccWord : sumaccWord t = 0x0000FF00 := by
  rw [Machine.sumaccWord, h.acc]
  rfl

theorem ResetValues.healthWord : healthWord t = 0 :=
  healthWord_of_initializing h.linkState h.isHealthy

theorem ResetValues.phase : phaseOf t.engine = .idle := by
  rw [h.engine]
  rfl

theorem ResetValues.recordRead (i : Fin 10) : recordRead i t = Config.recordDraw t.resets i.val :=
  recordRead_of_invalid h.recValid i

end

/-- Settles O27: both states hold the reset values, and each register's word follows from them. -/
theorem resetRegisterValues : Obligations.ResetRegisterValues := by
  unfold Obligations.ResetRegisterValues
  intro s t after
  have values : ResetValues t s.now := by
    rcases after with rfl | ⟨p, rfl⟩
    · exact resetBlock_resetValues s
    · exact resetAt_resetValues p s.now
  exact ⟨values.phase, values.statusWord, values.result, values.sumaccWord, values.threshold, values.healthWord,
    values.badCnt, values.goodCnt, values.lastGoodTs, values.recordRead⟩

theorem step_of_reset {s : State} {ts : List Turn} (h : s.sched = .reset :: ts) :
    step s = .next (State.resetBlock { s with sched := ts }) := by
  simp [step, nextTurn, h, takeTurn]

/-- Settles O28: the step is the reset of the block (`step_of_reset`), which holds the reset values and leaves the
rest. -/
theorem resetAbandonsTheRead : Obligations.ResetAbandonsTheRead := by
  unfold Obligations.ResetAbandonsTheRead
  intro s ts reset
  have values := resetBlock_resetValues { s with sched := ts }
  exact ⟨_, step_of_reset reset, rfl, rfl, values.phase, values.statusWord, values.result, values.sumaccWord,
    values.threshold, values.healthWord, values.badCnt, values.goodCnt, values.lastGoodTs, values.recordRead, rfl, rfl,
    rfl, rfl, rfl, rfl, rfl, rfl, rfl, rfl⟩

/-! ### The commands that only send -/

theorem exec_sends (s : State) :
    exec .pwron s = .next (send .start s) ∧ exec .pwroff s = .next (send .stop s) ∧
      exec .clean s = .next (send .clean s) ∧ exec .reqdata s = .next (send .readData s) :=
  ⟨rfl, rfl, rfl, rfl⟩

theorem serFrame_start (p : Params) :
    serFrame p .start = [0x7E, 0x00, 0x00, BitVec.ofNat 8 p.serialStartData.length] ++ p.serialStartData
      ++ [frameChecksum (frameBody 0x00 p.serialStartData), 0x7E] :=
  rfl

/-- The three frames of R64 that do not depend on the parameters. -/
theorem serFrame_fixed (p : Params) :
    serFrame p .stop = [0x7E, 0x00, 0x01, 0x00, 0xFE, 0x7E] ∧ serFrame p .clean = [0x7E, 0x00, 0x56, 0x00, 0xA9, 0x7E] ∧
      serFrame p .readData = [0x7E, 0x00, 0x03, 0x00, 0xFC, 0x7E] := by
  have frames : commandFrame 0x01 [] = [0x7E, 0x00, 0x01, 0x00, 0xFE, 0x7E] ∧
      commandFrame 0x56 [] = [0x7E, 0x00, 0x56, 0x00, 0xA9, 0x7E] ∧
      commandFrame 0x03 [] = [0x7E, 0x00, 0x03, 0x00, 0xFC, 0x7E] := by decide
  exact frames

/-- The start frame with the default start data of R6. -/
theorem serFrame_start_of_default {p : Params} (h : p.serialStartData = [0x02, 0x01]) :
    serFrame p .start = [0x7E, 0x00, 0x00, 0x02, 0x02, 0x01, 0xFA, 0x7E] := by
  rw [serFrame_start, h]
  decide

/-- Settles O35: each command sends its frame (`exec_sends`, `send_serial`), and the frames are R63's, the fixed ones
computed. -/
theorem serialCommandsSendTheirFrame : Obligations.SerialCommandsSendTheirFrame := by
  unfold Obligations.SerialCommandsSendTheirFrame
  intro s serial
  obtain ⟨pwron, pwroff, clean, reqdata⟩ := exec_sends s
  obtain ⟨stop, cleaning, readData⟩ := serFrame_fixed s.cfg
  refine ⟨?start, serFrame_start s.cfg, fun short => ⟨ofNat_length_toNat short, ?checksum⟩, fun defaults => ?default,
    ?stop, ?clean, ?readData⟩
  case start => rw [pwron, send_serial serial]
  case checksum => exact frameChecksum_frameBody_toNat 0x00 short
  case default => rw [pwron, send_serial serial, serFrame_start_of_default defaults]
  case stop => rw [pwroff, send_serial serial, stop]
  case clean => rw [clean, send_serial serial, cleaning]
  case readData => rw [reqdata, send_serial serial, readData]

/-- Settles O37: each command makes its write (`exec_sends`, `send_bus`), of the pointer and of the start data that the
block is built with. -/
theorem busCommandsWriteTheirPointer : Obligations.BusCommandsWriteTheirPointer := by
  unfold Obligations.BusCommandsWriteTheirPointer
  intro s bus
  obtain ⟨pwron, pwroff, clean, reqdata⟩ := exec_sends s
  rw [pwron, pwroff, clean, reqdata, send_bus bus, send_bus bus, send_bus bus, send_bus bus]
  refine ⟨fun without => ?no_data, fun d0 d1 carries => ?data, rfl, rfl, rfl⟩
  case no_data =>
    rw [busData, without]
    rfl
  case data =>
    rw [busData, carries]
    rfl

theorem exec_read (s : State) : exec .read s = .next (s.setEngine (.decode (decodeStart s.cfg.mode))) := rfl

/-- Settles O41: READ only sets the sequencer, to where the decode of the mode starts. -/
theorem readStartsTheDecode : Obligations.ReadStartsTheDecode := by
  unfold Obligations.ReadStartsTheDecode
  intro s
  refine ⟨fun serial => ?serial, fun bus => ?bus, fun t read => ?started⟩
  case serial =>
    rw [exec_read, serial]
    rfl
  case bus =>
    rw [exec_read, bus]
    rfl
  case started =>
    cases (exec_read s).symm.trans read
    exact ⟨rfl, statusWord_busy _⟩

end Sys2Proof.Machine
end

section
/-! The engine's turn at each place: where it holds (R157), and what a streak of failed READs leaves (R122). -/

namespace Sys2Proof.Machine

/-! ### The engine's turn at each place -/

theorem engineTurn_look {s : State} (h : s.engine = .decode .look) : engineTurn s = afterDecode (serialLook s) s := by
  rw [engineTurn, h]
  rfl

theorem engineTurn_pop {s : State} {d : DecodeStep} (h : s.engine = .decode d) (pops : popsNext (.decode d) = true) :
    engineTurn s = popTurn d s := by
  rw [engineTurn, h]
  cases d with
  | header | payload | escape | chk | trailer => rfl
  | look | ready | data => cases pops

theorem engineTurn_ready {s : State} (h : s.engine = .decode .ready) : engineTurn s = readyTurn s := by
  rw [engineTurn, h]
  rfl

theorem engineTurn_data {s : State} (h : s.engine = .decode .data) : engineTurn s = dataTurn s := by
  rw [engineTurn, h]
  rfl

theorem engineTurn_recover {s : State} {g : Stage} {k : FailKind} (h : s.engine = .recover g k) :
    engineTurn s = (send (stageCmd g) s).setEngine (.wait g k s.now) := by
  rw [engineTurn, h]

theorem engineTurn_wait {s : State} {g : Stage} {k : FailKind} {t0 : Word} (h : s.engine = .wait g k t0) :
    engineTurn s = waitTurn g k t0 s := by
  rw [engineTurn, h]

/-! ### Where the engine holds -/

theorem endFailed_engine_ne_discard (k k' : FailKind) (s : State) : (endFailed k s).engine ≠ .discard k' := by
  rcases endFailed_spec k s with ⟨-, ended⟩ | ⟨-, ended⟩ <;> simp [ended]

theorem afterDecode_engine_ne_decode {r : DecodeNext} {d : DecodeStep} (h : r ≠ .goOn d) (s : State) :
    (afterDecode r s).engine ≠ .decode d := by
  obtain ⟨e, moved, ⟨d', rfl, rfl⟩ | ⟨p, -, rfl⟩ | ⟨k, -, rfl | rfl⟩ | ⟨k, -, rfl⟩⟩ := afterDecode_spec r s
  · rw [moved]
    exact fun same => h (congrArg _ (Engine.decode.inj same))
  all_goals simp [moved]

theorem serialLook_ne_goOn_look (s : State) : serialLook s ≠ .goOn .look := by
  unfold serialLook
  split
  · simp
  · split
    · simp
    · split <;> simp

/-- R40: a place that pops holds exactly on an empty queue. -/
theorem popTurn_eq_self_iff (d : DecodeStep) (s : State) : popTurn d s = s ↔ s.rx = [] := by
  rcases popTurn_spec d s with ⟨empty, hold⟩ | ⟨b, q, queue, pop⟩
  · simp [empty, hold]
  · refine ⟨fun same => ?_, fun empty => by simp [queue] at empty⟩
    have shorter := congrArg State.rx same
    rw [pop, afterDecode_rx, queue] at shorter
    simp at shorter

/-- R42: a bus read is on record, so the turn that made it was no hold. -/
theorem afterDecode_busRead_ne (r : DecodeNext) (s : State) (ptr : BitVec 16) (n : Nat) :
    afterDecode r (s.busRead ptr n) ≠ s := by
  intro same
  have longer := congrArg State.busLog same
  rw [afterDecode_busLog, State.busRead] at longer
  simp at longer

theorem waitTurn_eq_self_iff {s : State} {g : Stage} {k : FailKind} {t0 : Word} (h : s.engine = .wait g k t0) :
    waitTurn g k t0 s = s ↔ (s.now - t0).toNat < (stageSettle s.cfg g).toNat := by
  rcases waitTurn_spec g k t0 s with ⟨running, hold⟩ | ⟨ended, done⟩
  · exact ⟨fun _ => running, fun _ => hold⟩
  · refine ⟨fun same => ?_, fun running => absurd running (Nat.not_lt.2 ended)⟩
    have moved := congrArg State.engine same
    rw [done, h] at moved
    cases g <;> cases moved

/-- R157: the holds of the engine, place by place. -/
theorem engineTurn_eq_self_iff (s : State) :
    engineTurn s = s ↔ s.engine = .idle ∨ (popsNext s.engine = true ∧ s.rx = []) ∨
      ∃ g k t0, s.engine = .wait g k t0 ∧ (s.now - t0).toNat < (stageSettle s.cfg g).toNat := by
  have differs {e : Engine} (place : s.engine = e) (other : (engineTurn s).engine ≠ e) : engineTurn s ≠ s :=
    fun same => other ((congrArg State.engine same).trans place)
  have pop {d : DecodeStep} (place : s.engine = .decode d) (pops : popsNext (.decode d) = true) :
      engineTurn s = s ↔ s.rx = [] := by
    rw [engineTurn_pop place pops]
    exact popTurn_eq_self_iff d s
  cases place : s.engine with
  | idle => simp [engineTurn_of_idle place]
  | decode d =>
    cases d with
    | look =>
      have moved := differs place (engineTurn_look place ▸ afterDecode_engine_ne_decode (serialLook_ne_goOn_look s) s)
      simp [moved, popsNext]
    | ready =>
      have moved : engineTurn s ≠ s := engineTurn_ready place ▸ afterDecode_busRead_ne _ s _ _
      simp [moved, popsNext]
    | data =>
      have moved : engineTurn s ≠ s := engineTurn_data place ▸ afterDecode_busRead_ne _ s _ _
      simp [moved, popsNext]
    | header | payload | escape | chk | trailer => simp [pop place rfl, popsNext]
  | discard k =>
    have moved := differs place (engineTurn_discard place ▸ endFailed_engine_ne_discard k k _)
    simp [moved, popsNext]
  | recover g k =>
    have moved := differs place (by simp [engineTurn_recover place])
    simp [moved, popsNext]
  | wait g k t0 =>
    rw [engineTurn_wait place, waitTurn_eq_self_iff place]
    simp [popsNext]
  | commit r =>
    have moved := differs place (by rw [engineTurn_commit place]; cases r <;> simp [commitRead])
    simp [moved, popsNext]

/-- Settles O44: the holds (`engineTurn_eq_self_iff`); and at a pop of the header the invariant has bytes queued
(R93). -/
theorem engineHoldsExactly : Obligations.EngineHoldsExactly := by
  unfold Obligations.EngineHoldsExactly
  refine ⟨engineTurn_eq_self_iff, fun s h inv place hold => ?_⟩
  have reading := inv.engine_ok
  rw [place] at reading
  obtain ⟨-, short, enough⟩ := reading
  rw [engineTurn_pop place rfl, popTurn_eq_self_iff] at hold
  simp [hold, Config.minFrame, Config.hdrLen] at enough short
  omega

/-! ### A streak of failed READs -/

theorem commitFails_cons (k : FailKind) (t2 : Option Word) (fs : List (FailKind × Option Word)) (s : State) :
    commitFails ((k, t2) :: fs) s = commitFails fs (commitFail k t2 s) := rfl

theorem commitFails_badCnt (fs : List (FailKind × Option Word)) (s : State) :
    (commitFails fs s).badCnt.toNat = min (s.badCnt.toNat + fs.length) 0xFFFFFFFF := by
  induction fs generalizing s with
  | nil =>
    have := s.badCnt.isLt
    show s.badCnt.toNat = min (s.badCnt.toNat + 0) _
    omega
  | cons f fs ih =>
    rw [commitFails_cons, ih, commitFail_badCnt, sat32_toNat, List.length_cons]
    omega

/-- R116: as long as the count stays below the limit the link state stays. -/
theorem commitFails_link_of_lt {fs : List (FailKind × Option Word)} {s : State}
    (below : s.badCnt.toNat + fs.length < 5) :
    (commitFails fs s).linkState = s.linkState ∧ (commitFails fs s).isHealthy = s.isHealthy := by
  induction fs generalizing s with
  | nil => exact ⟨rfl, rfl⟩
  | cons f fs ih =>
    obtain ⟨k, t2⟩ := f
    rw [List.length_cons] at below
    have kept := commitFail_of_not_degrades (mt (degrades_iff s).1 (by omega)) k t2
    rw [commitFails_cons, ← kept.1, ← kept.2]
    exact ih (by rw [commitFail_badCnt, sat32_toNat]; omega)

/-- R116: a failed READ that brings the count to the limit degrades the link, and those after it leave it so. -/
theorem commitFails_link_of_le {fs : List (FailKind × Option Word)} {s : State} (some_failed : fs ≠ [])
    (reached : 5 ≤ s.badCnt.toNat + fs.length) :
    (commitFails fs s).linkState = .degraded ∧ (commitFails fs s).isHealthy = false := by
  induction fs generalizing s with
  | nil => exact absurd rfl some_failed
  | cons f fs ih =>
    obtain ⟨k, t2⟩ := f
    rw [List.length_cons] at reached
    cases fs with
    | nil => exact commitFail_of_degrades ((degrades_iff s).2 reached) k t2
    | cons f' fs =>
      rw [commitFails_cons]
      refine ih (List.cons_ne_nil _ _) ?_
      rw [List.length_cons] at reached ⊢
      rw [commitFail_badCnt, sat32_toNat]
      omega

theorem commitFails_goodCnt_record (fs : List (FailKind × Option Word)) (s : State) :
    (commitFails fs s).goodCnt = s.goodCnt ∧ (commitFails fs s).record = s.record := by
  induction fs generalizing s with
  | nil => exact ⟨rfl, rfl⟩
  | cons f fs ih => exact ih _

/-- Settles O51: the count of a streak (`commitFails_badCnt`) and what it does to the link below the limit and from it
on, each by induction on the streak. -/
theorem failureStreak : Obligations.FailureStreak := by
  unfold Obligations.FailureStreak
  intro fs s zero
  have start : s.badCnt.toNat = 0 := by rw [zero]; rfl
  obtain ⟨good, record⟩ := commitFails_goodCnt_record fs s
  refine ⟨by rw [commitFails_badCnt, start, Nat.zero_add], fun few => commitFails_link_of_lt (by omega),
    fun many => commitFails_link_of_le ?_ (by omega), good, record, fun p t1 => ⟨rfl, rfl, rfl⟩⟩
  rintro rfl
  cases many

end Sys2Proof.Machine
end

section
/-! A recovery turn by turn (R118), and a bus READ from its start (R101 to R108). -/

namespace Sys2Proof.Machine

/-! ### What `Send(k)` appends -/

/-- What `Send(k)` appends to the transmit stream (R85, R111). -/
def sentBytes (p : Params) (k : SensorCmd) : List Byte :=
  match p.mode with
  | .serial => serFrame p k
  | .bus => []

/-- What `Send(k)` appends to the bus transactions (R100, R111). -/
def sentWrites (p : Params) (k : SensorCmd) : List BusTx :=
  match p.mode with
  | .serial => []
  | .bus => [.write p.busDevAddr (ptrBytes (busPtr k) ++ busData p k)]

theorem send_eq (k : SensorCmd) (s : State) :
    send k s = { s with tx := s.tx ++ sentBytes s.cfg k, busLog := s.busLog ++ sentWrites s.cfg k } := by
  cases mode : s.cfg.mode with
  | serial => simp [send_serial mode, sentBytes, sentWrites, mode]
  | bus => simp [send_bus mode, sentBytes, sentWrites, mode]

/-! ### A recovery -/

theorem step_of_sched {s : State} {t : Turn} {ts : List Turn} (h : s.sched = t :: ts) :
    step s = takeTurn t { s with sched := ts } := by
  simp [step, nextTurn, h]

theorem step_of_engine_turn {s : State} {ts : List Turn} (h : s.sched = .engine :: ts) :
    step s = .next (engineTurn { s with sched := ts }) :=
  step_of_sched h

theorem step_of_tick {s : State} {d : Word} {ts : List Turn} (h : s.sched = .tick d :: ts) :
    step s = .next { s with sched := ts, now := s.now + d } :=
  step_of_sched h

theorem elapsed_add_self (t d : Word) : elapsed (t + d) t = d := by
  rw [elapsed, BitVec.add_comm, BitVec.add_sub_cancel]

/-- The state after a stage's command: it is sent, and the settle wait has begun. -/
def afterCommand (g : Stage) (k : FailKind) (ts : List Turn) (s : State) : State :=
  { s with
    tx := s.tx ++ sentBytes s.cfg (stageCmd g), busLog := s.busLog ++ sentWrites s.cfg (stageCmd g), sched := ts
    engine := .wait g k s.now }

theorem step_recover {s : State} {g : Stage} {k : FailKind} {ts : List Turn} (place : s.engine = .recover g k)
    (turn : s.sched = .engine :: ts) : step s = .next (afterCommand g k ts s) := by
  rw [step_of_engine_turn turn, engineTurn_recover (s := { s with sched := ts }) place, send_eq]
  rfl

theorem step_wait_ended {s : State} {g : Stage} {k : FailKind} {t0 : Word} {ts : List Turn}
    (place : s.engine = .wait g k t0) (turn : s.sched = .engine :: ts)
    (settled : stageSettle s.cfg g ≤ elapsed s.now t0) :
    step s = .next { s with sched := ts, engine := afterStage g k s.now } := by
  rw [step_of_engine_turn turn, engineTurn_wait (s := { s with sched := ts }) place, waitTurn, if_pos settled]
  rfl

/-- The turns of a recovery stage: its command, the clock, the end of its wait. -/
def stageTurns (d : Word) (ts : List Turn) : List Turn :=
  .engine :: .tick d :: .engine :: ts

/-- The state after the three turns of a recovery stage: its command sent, the clock advanced by `d`. -/
def afterStageTurns (g : Stage) (k : FailKind) (d : Word) (ts : List Turn) (s : State) : State :=
  { s with
    tx := s.tx ++ sentBytes s.cfg (stageCmd g), busLog := s.busLog ++ sentWrites s.cfg (stageCmd g), now := s.now + d
    sched := ts, engine := afterStage g k (s.now + d) }

/-- R43, R118: a stage sends its command, waits while the clock advances by at least its settle time, and goes on. -/
theorem runFor_stage {s : State} {g : Stage} {k : FailKind} {d : Word} {ts : List Turn}
    (place : s.engine = .recover g k) (turns : s.sched = stageTurns d ts)
    (settled : stageSettle s.cfg g ≤ d) : runFor 3 s = .next (afterStageTurns g k d ts s) := by
  rw [runFor_succ 2 (step_recover place turns), runFor_succ 1 (step_of_tick rfl)]
  refine runFor_one (step_wait_ended (t0 := s.now) rfl rfl ?_)
  show stageSettle s.cfg g ≤ elapsed (s.now + d) s.now
  rwa [elapsed_add_self]

theorem step_commit_fail {s : State} {k : FailKind} {t2 : Option Word} {ts : List Turn}
    (place : s.engine = .commit (.fail k t2)) (turn : s.sched = .engine :: ts) :
    step s = .next (commitFail k t2 { s with sched := ts }) := by
  rw [step_of_engine_turn turn, engineTurn_commit_fail (s := { s with sched := ts }) place]

/-- The state after the three stages of a recovery, the commit still to come. -/
def afterRecovery (k : FailKind) (dOff dOn dClean : Word) (ts : List Turn) (s : State) : State :=
  { s with
    tx := s.tx ++ sentBytes s.cfg .stop ++ sentBytes s.cfg .start ++ sentBytes s.cfg .clean
    busLog := s.busLog ++ sentWrites s.cfg .stop ++ sentWrites s.cfg .start ++ sentWrites s.cfg .clean
    now := s.now + dOff + dOn + dClean, sched := ts
    engine := .commit (.fail k (some (s.now + dOff + dOn + dClean))) }

/-- R118: the three stages one after another, each in its three turns. -/
theorem runFor_recovery {s : State} {k : FailKind} {dOff dOn dClean : Word} {ts : List Turn}
    (place : s.engine = .recover .off k)
    (turns : s.sched = stageTurns dOff (stageTurns dOn (stageTurns dClean ts)))
    (off : s.cfg.tSettleOff ≤ dOff) (on : s.cfg.tSettleOn ≤ dOn) (clean : s.cfg.tSettleClean ≤ dClean) :
    runFor 9 s = .next (afterRecovery k dOff dOn dClean ts s) := by
  have run_off := runFor_stage place turns off
  have run_on := runFor_stage (s := afterStageTurns .off k dOff (stageTurns dOn (stageTurns dClean ts)) s) rfl rfl on
  rw [show 9 = 3 + (3 + 3) from rfl, runFor_add _ run_off, runFor_add _ run_on]
  exact runFor_stage (g := .clean) (ts := ts) rfl rfl clean

/-- Settles O49: the three stages (`runFor_recovery`) and the commit. -/
theorem recoverySequence : Obligations.RecoverySequence := by
  unfold Obligations.RecoverySequence
  intro s k dOff dOn dClean rest place turns off on clean
  have recovered := runFor_recovery place turns off on clean
  refine ⟨_, (runFor_add 1 recovered).trans (runFor_one (step_commit_fail rfl rfl)), rfl, sat32_toNat _,
    fun serial => ?serial, fun bus => ?bus⟩
  case serial =>
    have bytes (k : SensorCmd) : sentBytes s.cfg k = serFrame s.cfg k := by rw [sentBytes, serial]
    have writes (k : SensorCmd) : sentWrites s.cfg k = [] := by rw [sentWrites, serial]
    show s.busLog ++ sentWrites s.cfg .stop ++ sentWrites s.cfg .start ++ sentWrites s.cfg .clean = _ ∧
      s.tx ++ sentBytes s.cfg .stop ++ sentBytes s.cfg .start ++ sentBytes s.cfg .clean = _
    simp [bytes, writes]
  case bus =>
    have bytes (k : SensorCmd) : sentBytes s.cfg k = [] := by rw [sentBytes, bus]
    have writes (k : SensorCmd) : sentWrites s.cfg k =
        [.write s.cfg.busDevAddr (ptrBytes (busPtr k) ++ busData s.cfg k)] := by rw [sentWrites, bus]
    show s.tx ++ sentBytes s.cfg .stop ++ sentBytes s.cfg .start ++ sentBytes s.cfg .clean = _ ∧
      s.busLog ++ sentWrites s.cfg .stop ++ sentWrites s.cfg .start ++ sentWrites s.cfg .clean = _
    rw [bytes, bytes, bytes, writes, writes, writes]
    simp only [List.append_nil, List.append_assoc]
    exact ⟨trivial, rfl⟩

/-! ### The groups of a bus answer -/

theorem exists_cons_of_length_eq {d : List Byte} {n : Nat} (h : d.length = 3 * (n + 1)) :
    ∃ a b c l, d = a :: b :: c :: l ∧ l.length = 3 * n := by
  match d, h with
  | a :: b :: c :: l, h =>
    simp only [List.length_cons] at h
    exact ⟨a, b, c, l, rfl, by omega⟩
  | [], h | [_], h | [_, _], h =>
    simp only [List.length_cons, List.length_nil] at h
    omega

/-- R105: an answer of whole groups fails exactly when one of them does. -/
theorem busGroups_eq_none_iff {n : Nat} {d : List Byte} (h : d.length = 3 * n) :
    busGroups d = none ↔ ∃ g < n, crc8 (byteAt d (3 * g)) (byteAt d (3 * g + 1)) ≠ byteAt d (3 * g + 2) := by
  induction n generalizing d with
  | zero =>
    obtain rfl := List.eq_nil_of_length_eq_zero h
    simp [busGroups]
  | succ n ih =>
    obtain ⟨a, b, c, l, rfl, whole⟩ := exists_cons_of_length_eq h
    rw [busGroups_cons_eq_none_iff, ih whole, Nat.exists_lt_succ_left, imp_iff_not_or]
    rfl

/-- R108: each group gives its two data bytes to the payload. -/
theorem busGroups_byteAt {d p : List Byte} (h : busGroups d = some p) (g : Nat) :
    byteAt p (2 * g) = byteAt d (3 * g) ∧ byteAt p (2 * g + 1) = byteAt d (3 * g + 1) := by
  induction d using busGroups.induct generalizing p g with
  | case1 =>
    cases h
    exact ⟨rfl, rfl⟩
  | case2 a b l ih =>
    rw [busGroups, if_pos rfl] at h
    obtain ⟨q, rest, rfl⟩ := Option.map_eq_some_iff.1 h
    cases g with
    | zero => exact ⟨rfl, rfl⟩
    | succ g => exact ih rest g
  | case3 a b c l bad =>
    rw [busGroups, if_neg bad] at h
    cases h
  | case4 l not_nil not_group =>
    have fails : busGroups l = none := by rw [busGroups] <;> assumption
    cases fails.symm.trans h

/-- R24, R108: a field of the record spans two groups. -/
theorem fieldOf_of_busGroups {d p : List Byte} (h : busGroups d = some p) (i : Nat) :
    fieldOf p i = byteAt d (6 * i) ++ byteAt d (6 * i + 1) ++ byteAt d (6 * i + 3) ++ byteAt d (6 * i + 4) := by
  obtain ⟨b0, b1⟩ := busGroups_byteAt h (2 * i)
  obtain ⟨b2, b3⟩ := busGroups_byteAt h (2 * i + 1)
  rw [show 2 * (2 * i) = 4 * i by omega, show 3 * (2 * i) = 6 * i by omega] at b0 b1
  rw [show 2 * (2 * i + 1) = 4 * i + 2 by omega, show 3 * (2 * i + 1) = 6 * i + 3 by omega] at b2 b3
  rw [fieldOf, b0, b1, b2, b3]
  rfl

/-! ### A bus READ -/

theorem busRead_of_cons {s : State} {r : List Byte} {rs : List (List Byte)} (h : s.busAnswers = r :: rs)
    (ptr : BitVec 16) (n : Nat) :
    s.busRead ptr n = { s with busLog := s.busLog ++ [.read s.cfg.busDevAddr ptr n r], busAnswers := rs } := by
  simp [State.busRead, nextAnswer_of_cons h, h]

/-- A step of a READ whose turns are the engine's. -/
theorem step_of_engine_place {s : State} {e : Engine} (alone : s.sched = []) (place : s.engine = e) (busy : e ≠ .idle) :
    step s = .next (engineTurn s) :=
  step_of_engine alone ((busy_eq_true_iff s).2 (place ▸ busy))

section
variable {s : State} {r d : List Byte} {rest : List (List Byte)}

/-- The readiness transaction is made, and nothing else has changed (R101). -/
def afterReady (s : State) (r : List Byte) (rs : List (List Byte)) : State :=
  { s with busLog := s.busLog ++ [.read s.cfg.busDevAddr 0x0202 3 r], busAnswers := rs }

/-- Both transactions are made, and nothing else has changed (R101). -/
def afterData (s : State) (r d : List Byte) (rest : List (List Byte)) : State :=
  { s with
    busLog := s.busLog ++ [.read s.cfg.busDevAddr 0x0202 3 r, .read s.cfg.busDevAddr s.cfg.busAddrData 60 d]
    busAnswers := rest }

theorem step_ready (alone : s.sched = []) (place : s.engine = .decode .ready) (answers : s.busAnswers = r :: rest) :
    step s = .next (afterDecode (if busReady r then .goOn .data else .failed .notReady) (afterReady s r rest)) := by
  rw [step_of_engine_place alone place (by simp), engineTurn_ready place, readyTurn, nextAnswer_of_cons answers,
    busRead_of_cons answers]
  rfl

theorem step_data (alone : s.sched = []) (place : s.engine = .decode .data) (answers : s.busAnswers = d :: rest) :
    step s = .next (afterDecode (busVerify d) (s.busRead s.cfg.busAddrData Config.dataLen)) := by
  rw [step_of_engine_place alone place (by simp), engineTurn_data place, dataTurn, nextAnswer_of_cons answers]

theorem runFor_ready_data (alone : s.sched = []) (place : s.engine = .decode .ready)
    (answers : s.busAnswers = r :: d :: rest) (ready : busReady r = true) :
    runFor 2 s = .next (afterDecode (busVerify d) ((afterData s r d rest).setEngine (.decode .data))) := by
  have first := step_ready alone place answers
  rw [if_pos ready] at first
  have second :=
    step_data (s := (afterReady s r (d :: rest)).setEngine (.decode .data)) (d := d) (rest := rest) alone rfl rfl
  rw [busRead_of_cons (r := d) (rs := rest) rfl] at second
  refine ((runFor_succ 1 first).trans (runFor_one second)).trans ?_
  simp [afterReady, afterData, State.setEngine, Config.dataLen]

end

theorem busVerify_of_busGroups_eq_some {d p : List Byte} (size : d.length = Config.dataLen)
    (groups : busGroups d = some p) : busVerify d = .done p := by
  rw [busVerify, if_neg (not_not.2 size), groups]

theorem step_commit_ok {s : State} {p : List Byte} {t1 : Word} (alone : s.sched = [])
    (place : s.engine = .commit (.ok p t1)) : step s = .next (commitOk p t1 s) := by
  rw [step_of_engine_place alone place (by simp), engineTurn_commit_ok place]

/-- Settles O39: one or two transactions (`step_ready`, `runFor_ready_data`), and then what the readiness check
(`onlyOneReadyAnswer`) and the groups (`busGroups_eq_none_iff`, `fieldOf_of_busGroups`) decide. -/
theorem busReadOutcomes : Obligations.BusReadOutcomes := by
  unfold Obligations.BusReadOutcomes
  intro s r d rest bus alone place answers
  have both (ready : r = [0x00, 0x01, 0xB0]) := runFor_ready_data alone place answers ((onlyOneReadyAnswer r).2 ready)
  refine ⟨fun not_ready => ?not_ready, fun ready size => ?size, fun ready size bad => ?checksum,
    fun ready size good => ?good⟩
  case not_ready =>
    rw [step_ready alone place answers, if_neg (mt (onlyOneReadyAnswer r).1 not_ready)]
    rfl
  case size =>
    rw [both ready, busVerify_of_length_ne size]
    rfl
  case checksum =>
    rw [both ready, busVerify_of_busGroups_eq_none size ((busGroups_eq_none_iff (n := 20) size).2 bad)]
    rfl
  case good =>
    have some_group_bad := (busGroups_eq_none_iff (n := 20) size).1
    obtain ⟨p, groups⟩ : ∃ p, busGroups d = some p := by
      rw [← Option.ne_none_iff_exists']
      intro fails
      obtain ⟨g, lt, bad⟩ := some_group_bad fails
      exact bad (good g lt)
    have decoded := both ready
    rw [busVerify_of_busGroups_eq_some size groups] at decoded
    have commit := step_commit_ok (s := (afterData s r d rest).setEngine (.commit (.ok p s.now))) alone rfl
    refine ⟨_, (runFor_add 1 decoded).trans (runFor_one commit), rfl, fun i h => ?_⟩
    rw [commitOk_record, recordOf_getElem, fieldOf_of_busGroups groups]

end Sys2Proof.Machine
end

section
/-! The engine's serial decode against `SerialDecode()` (R90, R92 to R97): pop by pop through the header, the payload
and the trailer, with the number of pops equal to the number of bytes consumed; and the READ of a good frame (R99,
R115). -/

namespace Sys2Proof.Machine

/-! ### `SerialDecode()` case by case -/

section
variable (n : Nat) (q : List Byte)

theorem collect_of_ne_escMark {x : Byte} (h : x ≠ Config.escMark) :
    collect (n + 1) (x :: q) = (collect n q).push x := by
  simp [collect, h]

theorem collect_escMark_none {y : Byte} (h : unescByte y = none) :
    collect (n + 1) (Config.escMark :: y :: q) = .malformed q := by
  simp [collect, h]

theorem collect_escMark_some {y z : Byte} (h : unescByte y = some z) :
    collect (n + 1) (Config.escMark :: y :: q) = (collect n q).push z := by
  simp [collect, h]

end

theorem trailerRef_cons (h p : List Byte) (c e : Byte) (rest : List Byte) :
    trailerRef h p (c :: e :: rest) =
      if e ≠ Config.endMark then .fail .framingError (rest.drop Config.discardMax)
      else if frameChecksum (h ++ p) ≠ c then .fail .checksumMismatch (rest.drop Config.discardMax)
      else .ok p rest :=
  rfl

/-- Steps 6 to 9 of R90 from what was collected, for the covered header bytes `h`. -/
def payloadRef (h : List Byte) : Collected → SerialOutcome
  | .full p rest => trailerRef h p rest
  | .malformed rest => .fail .framingError (rest.drop Config.discardMax)
  | .dry => .hold

theorem frameRef_cons (x0 x1 x2 x3 x4 : Byte) (q : List Byte) :
    frameRef (x0 :: x1 :: x2 :: x3 :: x4 :: q) =
      if x3 ≠ 0x00 then .fail .sensorFault (q.drop Config.discardMax)
      else payloadRef [x1, x2, x3, x4] (collect Config.payloadLen q) :=
  rfl

/-! ### Pops -/

/-- A serial READ at the place `d` of its decode, with the receive queue `q`. -/
def State.decoding (s : State) (d : DecodeStep) (q : List Byte) : State :=
  { s with engine := .decode d, rx := q }

/-- The engine, taking every turn, pops its way from `d` to `d'`, which takes the queue from `q` to `q'`. -/
def PopsTo (s : State) (d : DecodeStep) (q : List Byte) (d' : DecodeStep) (q' : List Byte) : Prop :=
  ∃ n, q.length = n + q'.length ∧ runFor n (s.decoding d q) = .next (s.decoding d' q')

theorem PopsTo.refl (s : State) (d : DecodeStep) (q : List Byte) : PopsTo s d q d q :=
  ⟨0, (Nat.zero_add _).symm, rfl⟩

theorem PopsTo.trans {s : State} {d d' d'' : DecodeStep} {q q' q'' : List Byte} (first : PopsTo s d q d' q')
    (second : PopsTo s d' q' d'' q'') : PopsTo s d q d'' q'' := by
  obtain ⟨m, used, run⟩ := first
  obtain ⟨n, used', run'⟩ := second
  exact ⟨m + n, by omega, (runFor_add n run).trans run'⟩

/-! ### What the engine comes to -/

/-- The place of the decode with the payload bytes `p` collected (step 5 of R90). -/
def collecting (p : List Byte) (sum : Byte) : DecodeStep :=
  if p.length < Config.payloadLen then .payload p sum else .chk p sum

theorem serialPush_eq (p : List Byte) (sum x : Byte) :
    serialPush p sum x = .goOn (collecting (p ++ [x]) (sum + x)) := by
  unfold serialPush collecting
  split <;> rfl

/-- What the engine comes to while it collects from `q`, with the payload bytes `p` before them: as `collect` says. -/
def CollectsTo (s : State) (p : List Byte) (sum : Byte) (q : List Byte) : Collected → Prop
  | .full p' rest => PopsTo s (collecting p sum) q (.chk (p ++ p') (sum + byteSum p')) rest
  | .malformed rest => ∃ d b, PopsTo s (collecting p sum) q d (b :: rest) ∧ popsNext (.decode d) = true ∧
      serialPopped d b = .failedDiscard .framingError
  | .dry => ∃ d, PopsTo s (collecting p sum) q d [] ∧ popsNext (.decode d) = true

/-- Collecting from `q` begins with the pops that give the payload byte `x`. -/
theorem CollectsTo.push {s : State} {p q q' : List Byte} {sum x : Byte} {c : Collected}
    (rest : CollectsTo s (p ++ [x]) (sum + x) q' c)
    (first : PopsTo s (collecting p sum) q (collecting (p ++ [x]) (sum + x)) q') : CollectsTo s p sum q (c.push x) := by
  cases c with
  | full p' left =>
    have run := first.trans rest
    rw [List.append_assoc, BitVec.add_assoc, ← byteSum_cons] at run
    exact run
  | malformed left =>
    obtain ⟨d, b, run, bad⟩ := rest
    exact ⟨d, b, first.trans run, bad⟩
  | dry =>
    obtain ⟨d, run, pops⟩ := rest
    exact ⟨d, first.trans run, pops⟩

/-- What the engine comes to from `d` with the queue `q`: as an outcome of `SerialDecode()` says, the last pop of a
decode that ends still to come. -/
def DecodesTo (s : State) (d : DecodeStep) (q : List Byte) : SerialOutcome → Prop
  | .ok p rest => ∃ d' b, PopsTo s d q d' (b :: rest) ∧ popsNext (.decode d') = true ∧ serialPopped d' b = .done p
  | .fail k rest => ∃ d' b q', PopsTo s d q d' (b :: q') ∧ popsNext (.decode d') = true ∧
      serialPopped d' b = .failedDiscard k ∧ rest = q'.drop Config.discardMax
  | .hold => ∃ d', PopsTo s d q d' [] ∧ popsNext (.decode d') = true

theorem DecodesTo.after {s : State} {d d' : DecodeStep} {q q' : List Byte} {o : SerialOutcome}
    (rest : DecodesTo s d' q' o) (first : PopsTo s d q d' q') : DecodesTo s d q o := by
  cases o with
  | ok p left =>
    obtain ⟨e, b, run, ends⟩ := rest
    exact ⟨e, b, first.trans run, ends⟩
  | fail k left =>
    obtain ⟨e, b, r, run, ends⟩ := rest
    exact ⟨e, b, r, first.trans run, ends⟩
  | hold =>
    obtain ⟨e, run, pops⟩ := rest
    exact ⟨e, first.trans run, pops⟩

/-! ### Pops while the engine takes every turn -/

section
variable {s : State} (alone : s.sched = [])
include alone

/-- One pop while the engine takes every turn (R40, R90). -/
theorem step_decoding {d : DecodeStep} (pops : popsNext (.decode d) = true) (b : Byte) (q : List Byte) :
    step (s.decoding d (b :: q)) = .next (afterDecode (serialPopped d b) (s.decoding d q)) := by
  rw [step_of_engine_place (s := s.decoding d (b :: q)) (e := .decode d) alone rfl (by simp), engineTurn_pop rfl pops,
    popTurn, rxPop_of_cons rfl]
  rfl

theorem PopsTo.one {d d' : DecodeStep} (pops : popsNext (.decode d) = true) {b : Byte}
    (leads : serialPopped d b = .goOn d') (q : List Byte) : PopsTo s d (b :: q) d' q := by
  refine ⟨1, Nat.add_comm _ _, runFor_one ?_⟩
  rw [step_decoding alone pops, leads]
  rfl

/-- R157: an engine that waits for bytes stays where it is. -/
theorem step_decoding_nil {d : DecodeStep} (pops : popsNext (.decode d) = true) :
    step (s.decoding d []) = .next (s.decoding d []) := by
  rw [step_of_engine_place (s := s.decoding d []) (e := .decode d) alone rfl (by simp), engineTurn_pop rfl pops,
    (popTurn_eq_self_iff d _).2 rfl]

/-- A discard ends the decode (R96). -/
theorem step_discard {k : FailKind} (place : s.engine = .discard k) :
    step s = .next (endFailed k (s.rxDiscard Config.discardMax)) := by
  rw [step_of_engine_place alone place (by simp), engineTurn_discard place]

/-! ### The header -/

/-- Step 4 of R90 up to its last pop. -/
theorem header_popsTo (x0 x1 x2 x3 : Byte) (q : List Byte) :
    PopsTo s (.header []) (x0 :: x1 :: x2 :: x3 :: q) (.header [x0, x1, x2, x3]) q :=
  (PopsTo.one alone rfl rfl _).trans <| (PopsTo.one alone rfl rfl _).trans <|
    (PopsTo.one alone rfl rfl _).trans <| PopsTo.one alone rfl rfl _

/-! ### The payload -/

/-- Step 5 of R90: the engine collects what `collect` does, with the same bytes consumed. -/
theorem collectsTo_collect {n : Nat} {p : List Byte} (missing : p.length + n = Config.payloadLen) (sum : Byte)
    (q : List Byte) : CollectsTo s p sum q (collect n q) := by
  induction n generalizing p sum q with
  | zero =>
    have place : collecting p sum = .chk p sum := if_neg (by omega)
    have stay := PopsTo.refl s (collecting p sum) q
    rw [collect]
    show PopsTo s (collecting p sum) q (.chk (p ++ []) (sum + 0)) q
    rwa [List.append_nil, show sum + 0 = sum from BitVec.add_zero sum, ← place]
  | succ n ih =>
    have place : collecting p sum = .payload p sum := if_pos (by omega)
    have next (x : Byte) (q : List Byte) : CollectsTo s (p ++ [x]) (sum + x) q (collect n q) :=
      ih (by rw [List.length_append, List.length_singleton]; omega) _ q
    cases q with
    | nil => exact ⟨_, PopsTo.refl s _ _, by rw [place]; rfl⟩
    | cons x q =>
      by_cases escaped : x = Config.escMark
      · subst escaped
        have pop : PopsTo s (collecting p sum) (Config.escMark :: q) (.escape p sum) q := by
          rw [place]
          exact PopsTo.one alone rfl rfl q
        cases q with
        | nil => exact ⟨_, pop, rfl⟩
        | cons y q =>
          cases stands : unescByte y with
          | none =>
            rw [collect_escMark_none n q stands]
            exact ⟨_, y, pop, rfl, by simp only [serialPopped, serialEscape, stands]⟩
          | some z =>
            have leads : serialPopped (.escape p sum) y = .goOn (collecting (p ++ [z]) (sum + z)) := by
              simp only [serialPopped, serialEscape, stands, serialPush_eq]
            rw [collect_escMark_some n q stands]
            exact (next z q).push (pop.trans (PopsTo.one alone rfl leads q))
      · have leads : serialPopped (.payload p sum) x = .goOn (collecting (p ++ [x]) (sum + x)) := by
          simp only [serialPopped, serialPayload, if_neg escaped, serialPush_eq]
        rw [collect_of_ne_escMark n q escaped]
        refine (next x q).push ?_
        rw [place]
        exact PopsTo.one alone rfl leads q

/-! ### The whole frame -/

/-- Steps 7 to 9 of R90: the running sum is the sum of the covered bytes (R95). -/
theorem decodesTo_trailerRef (h p q : List Byte) :
    DecodesTo s (.chk p (byteSum h + byteSum p)) q (trailerRef h p q) := by
  have sum : ~~~(byteSum h + byteSum p) = frameChecksum (h ++ p) := by rw [frameChecksum, byteSum_append]
  match q with
  | [] => exact ⟨_, PopsTo.refl s _ _, rfl⟩
  | [c] => exact ⟨_, PopsTo.one alone rfl rfl [], rfl⟩
  | c :: e :: q =>
    have pop : PopsTo s (.chk p (byteSum h + byteSum p)) (c :: e :: q)
        (.trailer p (byteSum h + byteSum p) c) (e :: q) :=
      PopsTo.one alone rfl rfl _
    have last : serialPopped (.trailer p (byteSum h + byteSum p) c) e =
        if e ≠ Config.endMark then .failedDiscard .framingError
        else if frameChecksum (h ++ p) ≠ c then .failedDiscard .checksumMismatch else .done p := by
      rw [← sum]
      rfl
    rw [trailerRef_cons]
    split
    · next unmarked => exact ⟨_, e, q, pop, rfl, last.trans (if_pos unmarked), rfl⟩
    · next marked =>
      rw [if_neg marked] at last
      split
      · next differs => exact ⟨_, e, q, pop, rfl, last.trans (if_pos differs), rfl⟩
      · next agrees => exact ⟨_, e, pop, rfl, last.trans (if_neg agrees)⟩

/-- Steps 6 to 9 of R90, from where the payload is collected. -/
theorem decodesTo_payloadRef (h : List Byte) {q : List Byte} {c : Collected}
    (collected : CollectsTo s [] (byteSum h) q c) : DecodesTo s (collecting [] (byteSum h)) q (payloadRef h c) := by
  cases c with
  | full p rest => exact (decodesTo_trailerRef alone h p rest).after collected
  | malformed rest =>
    obtain ⟨d, b, run, pops, bad⟩ := collected
    exact ⟨d, b, rest, run, pops, bad, rfl⟩
  | dry => exact collected

/-- Steps 4 to 9 of R90, from the first pop of the header. -/
theorem decodesTo_frameRef {q : List Byte} (enough : Config.hdrLen ≤ q.length) :
    DecodesTo s (.header []) q (frameRef q) := by
  match q, enough with
  | x0 :: x1 :: x2 :: x3 :: x4 :: q, _ =>
    have pops := header_popsTo alone x0 x1 x2 x3 (x4 :: q)
    have last : serialPopped (.header [x0, x1, x2, x3]) x4 =
        if x3 ≠ 0x00 then .failedDiscard .sensorFault else .goOn (collecting [] (byteSum [x1, x2, x3, x4])) :=
      rfl
    rw [frameRef_cons]
    split
    · next fault => exact ⟨_, x4, q, pops, rfl, last.trans (if_pos fault), rfl⟩
    · next healthy =>
      have header := pops.trans (PopsTo.one alone rfl (last.trans (if_neg healthy)) q)
      exact (decodesTo_payloadRef alone _ (collectsTo_collect alone rfl _ q)).after header
  | [], h | [_], h | [_, _], h | [_, _, _], h | [_, _, _, _], h =>
    exact absurd h (by simp [Config.hdrLen])

end

/-! ### `SerialDecode()` from the first look -/

theorem serialLook_cases (s : State) :
    (serialLook s = .failed .noDataAvailable ∧ serialDecodeRef s.rx = .fail .noDataAvailable s.rx) ∨
    (serialLook s = .failedDiscard .resynchronizing ∧
      serialDecodeRef s.rx = .fail .resynchronizing (s.rx.drop Config.discardMax)) ∨
    (serialLook s = .failed .incompleteFrame ∧ serialDecodeRef s.rx = .fail .incompleteFrame s.rx) ∨
    (serialLook s = .goOn (.header []) ∧ Config.minFrame ≤ s.rx.length ∧ serialDecodeRef s.rx = frameRef s.rx) := by
  unfold serialLook serialDecodeRef State.rxAvail State.rxPeek
  split
  · exact .inl ⟨rfl, rfl⟩
  · split
    · exact .inr (.inl ⟨rfl, rfl⟩)
    · split
      · exact .inr (.inr (.inl ⟨rfl, rfl⟩))
      · next enough => exact .inr (.inr (.inr ⟨rfl, Nat.not_lt.1 enough, rfl⟩))

section
variable {s : State} (alone : s.sched = []) (place : s.engine = .decode .look)
include alone place

theorem step_look : step s = .next (afterDecode (serialLook s) s) := by
  rw [step_of_engine_place alone place (by simp), engineTurn_look place]

/-- A good decode, in as many steps as it consumes bytes and the look before them (R90, R97). -/
theorem runFor_of_serialDecodeRef_ok {p rest : List Byte} (decoded : serialDecodeRef s.rx = .ok p rest) :
    ∃ n, s.rx.length + 1 = n + rest.length ∧
      runFor n s = .next { s with rx := rest, engine := .commit (.ok p s.now) } := by
  rcases serialLook_cases s with ⟨-, ref⟩ | ⟨-, ref⟩ | ⟨-, ref⟩ | ⟨look, enough, ref⟩
  · cases ref.symm.trans decoded
  · cases ref.symm.trans decoded
  · cases ref.symm.trans decoded
  · have first := step_look alone place
    have frame := decodesTo_frameRef alone (Nat.le_trans (by decide) enough)
    rw [look] at first
    rw [← ref, decoded] at frame
    obtain ⟨d, b, ⟨n, used, run⟩, pops, ends⟩ := frame
    have last := step_decoding alone pops b rest
    rw [ends] at last
    rw [List.length_cons] at used
    exact ⟨n + 1 + 1, by omega, (runFor_succ (n + 1) first).trans ((runFor_add 1 run).trans (runFor_one last))⟩

theorem runFor_of_serialDecodeRef_fail {k : FailKind} {rest : List Byte}
    (decoded : serialDecodeRef s.rx = .fail k rest) : ∃ n, runFor n s = .next (endFailed k { s with rx := rest }) := by
  have first := step_look alone place
  rcases serialLook_cases s with ⟨look, ref⟩ | ⟨look, ref⟩ | ⟨look, ref⟩ | ⟨look, enough, ref⟩ <;> rw [look] at first
  · cases ref.symm.trans decoded
    exact ⟨1, runFor_one first⟩
  · cases ref.symm.trans decoded
    exact ⟨2, (runFor_succ 1 first).trans (runFor_one (step_discard (s := s.setEngine (.discard _)) alone rfl))⟩
  · cases ref.symm.trans decoded
    exact ⟨1, runFor_one first⟩
  · have frame := decodesTo_frameRef alone (Nat.le_trans (by decide) enough)
    rw [← ref, decoded] at frame
    obtain ⟨d, b, q, ⟨n, -, run⟩, pops, ends, rfl⟩ := frame
    have last := step_decoding alone pops b q
    rw [ends] at last
    have discard := step_discard (s := (s.decoding d q).setEngine (.discard k)) alone rfl
    exact ⟨n + 2 + 1, (runFor_succ (n + 2) first).trans <| (runFor_add 2 run).trans <|
      (runFor_succ 1 last).trans (runFor_one discard)⟩

theorem runFor_of_serialDecodeRef_hold (decoded : serialDecodeRef s.rx = .hold) :
    ∃ n d, popsNext (.decode d) = true ∧ runFor n s = .next (s.decoding d []) := by
  rcases serialLook_cases s with ⟨-, ref⟩ | ⟨-, ref⟩ | ⟨-, ref⟩ | ⟨look, enough, ref⟩
  · cases ref.symm.trans decoded
  · cases ref.symm.trans decoded
  · cases ref.symm.trans decoded
  · have first := step_look alone place
    have frame := decodesTo_frameRef alone (Nat.le_trans (by decide) enough)
    rw [look] at first
    rw [← ref, decoded] at frame
    obtain ⟨d, ⟨n, -, run⟩, pops⟩ := frame
    exact ⟨n + 1, d, pops, (runFor_succ n first).trans run⟩

end

/-- Settles O42: the look decides as the first three checks of `SerialDecode()` do (`serialLook_cases`), and the pops
behind it come to what the rest of it says (`decodesTo_frameRef`). -/
theorem serialEngineRefinesSerialDecode : Obligations.SerialEngineRefinesSerialDecode := by
  unfold Obligations.SerialEngineRefinesSerialDecode
  intro s serial alone place
  cases decoded : serialDecodeRef s.rx with
  | ok p rest =>
    obtain ⟨n, -, run⟩ := runFor_of_serialDecodeRef_ok alone place decoded
    exact ⟨n, run⟩
  | fail k rest => exact runFor_of_serialDecodeRef_fail alone place decoded
  | hold =>
    obtain ⟨n, d, pops, run⟩ := runFor_of_serialDecodeRef_hold alone place decoded
    exact ⟨n, s.decoding d [], run, rfl, rfl,
      ⟨rfl, rfl, rfl, rfl, rfl, rfl, rfl, rfl, rfl, rfl, rfl, rfl, rfl, rfl⟩, step_decoding_nil alone pops⟩

/-! ### A good frame -/

/-- R99: collecting takes the stuffing off again. -/
theorem collect_stuffBytes (p rest : List Byte) : collect p.length (stuffBytes p ++ rest) = .full p rest := by
  induction p with
  | nil => rfl
  | cons b p ih =>
    rw [stuffBytes_cons, List.append_assoc, List.length_cons]
    by_cases reserved : b ∈ [0x7E, 0x7D, 0x11, 0x13]
    · have pair : stuffByte b ++ (stuffBytes p ++ rest) = Config.escMark :: (b ^^^ 0x20) :: (stuffBytes p ++ rest) := by
        rw [stuffByte_of_mem reserved]
        rfl
      rw [pair, collect_escMark_some _ _ (unescByte_xor_of_mem reserved), ih]
      rfl
    · have plain : b ≠ Config.escMark := by
        rintro rfl
        exact reserved (by decide)
      rw [stuffByte_of_not_mem reserved, List.singleton_append, collect_of_ne_escMark _ _ plain, ih]
      rfl

/-- R99: `SerialDecode()` gives the payload of every response frame back, and leaves what is behind the frame. -/
theorem serialDecodeRef_responseFrame (adr cmd len : Byte) {p : List Byte} (full : p.length = Config.payloadLen)
    (rest : List Byte) : serialDecodeRef (responseFrame adr cmd len p ++ rest) = .ok p rest := by
  have queue : responseFrame adr cmd len p ++ rest = Config.startMark :: adr :: cmd :: 0x00 :: len ::
      (stuffBytes p ++ frameChecksum ([adr, cmd, 0x00, len] ++ p) :: Config.endMark :: rest) := by
    simp [responseFrame]
  have enough : ¬ (responseFrame adr cmd len p ++ rest).length < Config.minFrame := by
    have := length_le_stuffBytes p
    rw [full] at this
    rw [queue]
    simp only [List.length_cons, List.length_append, Config.minFrame, Config.payloadLen] at this ⊢
    omega
  rw [serialDecodeRef, if_neg (by simp [queue]), if_neg (by simp [queue]), if_neg enough, queue, frameRef_cons,
    if_neg (by simp), ← full, collect_stuffBytes, payloadRef, trailerRef_cons, if_neg (by simp), if_neg (by simp)]

/-- Settles O43: the frame decodes (`serialDecodeRef_responseFrame`), so the engine comes to its commit in a step for
each byte and the look (`runFor_of_serialDecodeRef_ok`), and the commit is one more. -/
theorem goodFrameReadCommits : Obligations.GoodFrameReadCommits := by
  unfold Obligations.GoodFrameReadCommits
  intro s adr cmd len p rest serial alone place full queue
  have decoded := serialDecodeRef_responseFrame adr cmd len (p := p) full rest
  rw [← queue] at decoded
  obtain ⟨n, used, run⟩ := runFor_of_serialDecodeRef_ok alone place decoded
  have steps : (stuffBytes p).length + 9 = n + 1 := by
    rw [queue] at used
    simp [responseFrame] at used
    omega
  have commit := step_commit_ok (s := { s with rx := rest, engine := .commit (.ok p s.now) }) alone rfl
  rw [steps]
  exact ⟨_, (runFor_add 1 run).trans (runFor_one commit), rfl, recordOf_getElem p⟩

end Sys2Proof.Machine
end
